-- ==== Sys2Proof/Word.lean ====
section
/-! DEFINITION. The plain types of the IR-6 model: bytes, words, addresses, tags, ports, node numbers, and the
cyclic order in which every round-robin of the router searches. -/

namespace Sys2Proof

/-- One byte as sent on a link (R25). -/
abbrev Byte := BitVec 8

/-- A word of 4 bytes, the unit of payloads (00_scope, 4.3). -/
abbrev Word := BitVec 32

/-- A 48-bit byte address (00_scope, 4.3). -/
abbrev Addr := BitVec 48

/-- The tag of a request or reply, 0 to 255 (R28). -/
abbrev Tag := BitVec 8

/-- A link port, L0 to L5. -/
abbrev Port := Fin 6

/-- A node number, 0 to 31. -/
abbrev Node := Fin 32

/-- The six ports in order. -/
def allPorts : List Port := [0, 1, 2, 3, 4, 5]

/-- The members of `Fin n` in cyclic order, starting just after `k` and ending with `k` itself: the search order of
every round-robin pointer (R79, R82, R84). -/
def cyclicAfter {n : Nat} [NeZero n] (k : Fin n) : List (Fin n) :=
  (List.range n).map fun i => Fin.ofNat n (k.val + 1 + i)

/-- The port that a word names, if it is 0 to 5 (R35). -/
def portOfNat (v : Nat) : Option Port :=
  if h : v < 6 then some ⟨v, h⟩ else none

/-- The node number that a value names, if it is 0 to 31. -/
def nodeOfNat (v : Nat) : Option Node :=
  if h : v < 32 then some ⟨v, h⟩ else none

end Sys2Proof
end

