-- ==== Sys2Proof/Syntax.lean ====
section
/-! DEFINITION. The commands of the IR-6: one constructor for each row of spec/opcode_table.json. A command is an event
at a pin, at a link, at a timer, or at the Management Unit. -/

namespace Sys2Proof

/-- One event of the router, as listed in spec/opcode_table.json.

A row about a received parcel carries the port and the parcel's bytes as they stand on the link (R25). A row about a
timer or about a transmitter names its owner. A directive row carries no operand: it is the execution of the directive
that the Management Unit holds, whose arguments arrived in a DIRECTIVE parcel (R131). -/
inductive Instr where
  /-- COLD_RESET_ASSERT: the falling edge of RST# (R182). -/
  | coldResetAssert
  /-- COLD_RESET_RELEASE: the rising edge of RST#, with the levels of NODE[4:0] and MGR[2:0] at the edge (R183). -/
  | coldResetRelease (strapNode : BitVec 5) (strapMgr : BitVec 3)
  /-- TIME_BASE_TICK: 50 REFCLK periods have passed (R185). -/
  | timeBaseTick
  /-- HELLO_TIMER_EXPIRY at a port (R3). -/
  | helloTimerExpiry (p : Port)
  /-- ATTEMPT_TIMER_EXPIRY at a port (R7). -/
  | attemptTimerExpiry (p : Port)
  /-- HELLO_ACCEPT: a HELLO arrives at a port in TRAINING (R5). -/
  | helloAccept (p : Port) (bytes : List Byte)
  /-- HELLO_RECEIVE_UP: a HELLO arrives at a port in UP (R12). -/
  | helloReceiveUp (p : Port) (bytes : List Byte)
  /-- DAMAGED_PARCEL: a parcel of bad size or check arrives (R10). -/
  | damagedParcel (p : Port) (bytes : List Byte)
  /-- PARCEL_DISCARD_INACTIVE: anything arrives at a port in OFF or HALTED (R8). -/
  | parcelDiscardInactive (p : Port) (bytes : List Byte)
  /-- REQUEST_PARCEL_RECEIVE: a request arrives at a port in UP (R11). -/
  | requestParcelReceive (p : Port) (bytes : List Byte)
  /-- REPLY_PARCEL_RECEIVE: a REPLY arrives at a port in UP (R11). -/
  | replyParcelReceive (p : Port) (bytes : List Byte)
  /-- CREDIT_RECEIVE: a CREDIT arrives at a port in UP (R16). -/
  | creditReceive (p : Port) (bytes : List Byte)
  /-- UNKNOWN_KIND_RECEIVE: a parcel of unknown kind arrives at a port in UP (R11). -/
  | unknownKindReceive (p : Port) (bytes : List Byte)
  /-- PARCEL_LEFT: the transmitter of a port has sent a parcel's last part (R19). -/
  | parcelLeft (p : Port)
  /-- REPLY_MATCH: the Tracking Table takes the head of a port's reply lane (R93). -/
  | replyMatch (p : Port)
  /-- DEADLINE_EXPIRY of an ACTIVE entry (R96). -/
  | deadlineExpiry (i : Fin 64)
  /-- ORPHAN_DEADLINE_EXPIRY of an ORPHANED entry (R97). -/
  | orphanDeadlineExpiry (i : Fin 64)
  /-- TOMBSTONE_EXPIRY of a TOMBSTONE entry (R99). -/
  | tombstoneExpiry (i : Fin 64)
  /-- LOCK_HOLD_EXPIRY of a HELD lock record (R114). -/
  | lockHoldExpiry (r : Fin 4)
  /-- IDENTIFY (R146). -/
  | identify
  /-- PORT_STATUS (R147). -/
  | portStatus
  /-- PORT_ENABLE (R148). -/
  | portEnable
  /-- PORT_DISABLE (R149). -/
  | portDisable
  /-- PORT_RESTART (R150). -/
  | portRestart
  /-- FENCE (R152). -/
  | fence
  /-- UNFENCE (R153). -/
  | unfence
  /-- SET_QUOTA (R154). -/
  | setQuota
  /-- SET_DEADLINE (R155). -/
  | setDeadline
  /-- SET_TOMBSTONE (R156). -/
  | setTombstone
  /-- SET_LOCK_LIMIT (R156). -/
  | setLockLimit
  /-- RESET_ROUTER (R157). -/
  | resetRouter
  /-- TABLE_WRITE (R55). -/
  | tableWrite
  /-- TABLE_READ (R56). -/
  | tableRead
  /-- TABLE_CLEAR (R57). -/
  | tableClear
  /-- COMMIT (R59). -/
  | commit
  /-- DISCARD (R58). -/
  | discard
  /-- TRACK_READ (R104). -/
  | trackRead
  /-- LOCK_READ (R121). -/
  | lockRead
  /-- BREAK_LOCK (R118). -/
  | breakLock
  /-- NODE_SET (R124). -/
  | nodeSet
  /-- NODE_READ (R125). -/
  | nodeRead
  /-- SET_NODE (R126). -/
  | setNode
  /-- SET_MANAGER (R143). -/
  | setManager
  /-- FAULT_READ (R172). -/
  | faultRead
  /-- FAULT_POP (R173). -/
  | faultPop
  /-- FAULT_POLICY (R175). -/
  | faultPolicy
  /-- ALERT_SET (R180). -/
  | alertSet
  /-- ALERT_ARM (R181). -/
  | alertArm
  /-- UNKNOWN_COMMAND: execution of a directive whose code is not in the command table (R132). -/
  | unknownCommand
  /-- TRAINING_PARCEL_DISCARD: a good parcel that is not a HELLO arrives at a port in TRAINING (R11). -/
  | trainingParcelDiscard (p : Port) (bytes : List Byte)
  deriving DecidableEq, Repr

end Sys2Proof
end

