-- ==== Sys2Proof/Decode.lean ====
section
/-! DEFINITION. Commands from words. The rows of spec/opcode_table.json give no bits: a command of this router is an event
at its pins, links, timers and Management Unit, and no word spells one. The formats the manual does give are those of
parcels on a link, which Machine/Wire.lean reads and writes. -/

namespace Sys2Proof

/-- The command that a word spells by the table's bits. No row gives bits, so there is none (log
entry 16). -/
def decodeTableWord (_nbits _w : Nat) : Option Instr := none

end Sys2Proof
end

