-- ==== Sys2Proof/Config.lean ====
section
/-! DEFINITION. What the manual fixes once for the part (capacities, training times, reset values of the configuration,
identification codes) and the one free value of the model: the order of internal actions that the manual leaves open. -/

namespace Sys2Proof.Config

/-- Capacity of a request lane, and the request credit offer of every HELLO the router sends (R4, R13). -/
def requestLaneSlots : Nat := 12

/-- Capacity of a reply lane, and the reply credit offer of every HELLO the router sends (R4, R14). -/
def replyLaneSlots : Nat := 8

/-- Capacity of a Reply Queue (R83). -/
def replyQueueSlots : Nat := 8

/-- Capacity of the Fault List (R169). -/
def faultListSlots : Nat := 32

/-- HELLO timer, in µs (R3). -/
def helloPeriod : Nat := 10

/-- Attempt timer, in µs (R3). -/
def attemptPeriod : Nat := 200

/-- Counted attempts after which a port halts (R7). -/
def maxAttempts : Nat := 4

/-- Largest value of the fenced-drop count, at which it saturates (R24). -/
def maxFencedDrops : Nat := 65535

/-- Quota of every origin after a cold reset (R145). -/
def defaultQuota : Nat := 16

/-- Reply deadline of every destination after a cold reset, in µs (R145). -/
def defaultDeadline : Nat := 4000

/-- Tombstone interval after a cold reset, in µs (R145). -/
def defaultTombstone : Nat := 2000

/-- Lock hold limit after a cold reset, in µs (R145). -/
def defaultHoldLimit : Nat := 1000

/-- Vendor code of IDENTIFY (R41). -/
def vendorCode : BitVec 16 := 0x3C5A#16

/-- Part code of IDENTIFY (R41). -/
def partCode : BitVec 16 := 0x0106#16

/-- Revision of IDENTIFY (R41). -/
def revision : BitVec 4 := 1#4

/-- FREE VALUE (log entry 1). Where several blocks of the router may act in one event and the manual says that either
may be taken first (R53, R80, R84, R89, R110), the `k`-th such choice takes the action at position `freeOrder k`,
modulo their number. Nothing is known of this function, so a claim holds whatever the order. -/
opaque freeOrder : Nat → Nat

end Sys2Proof.Config
end

