-- ==== Sys2Proof/Machine/Parcel.lean ====
section
/-! DEFINITION. Parcels as the router reads and writes them: request kinds, requests, replies, HELLO and CREDIT, with the
codes of kinds, statuses and directive commands (R27, R33, R34). -/

namespace Sys2Proof.Machine

open Sys2Proof

/-- The kinds that travel on the request lane (R27). -/
inductive ReqKind where
  | fetch
  | store
  | storeC
  | swap
  | claim
  | release
  | directive
  | note
  deriving DecidableEq, Repr

/-- The kind code in header byte 0 (R27). -/
def ReqKind.code : ReqKind → Byte
  | .fetch => 0x10#8
  | .store => 0x11#8
  | .storeC => 0x12#8
  | .swap => 0x13#8
  | .claim => 0x18#8
  | .release => 0x19#8
  | .directive => 0x20#8
  | .note => 0x21#8

/-- Posted kinds are not answered: STORE and NOTE (R27, R67). -/
def ReqKind.posted : ReqKind → Bool
  | .store => true
  | .note => true
  | _ => false

/-- DIRECTIVE and NOTE are routed by node number; every other request kind carries an address (R28). -/
def ReqKind.byNode : ReqKind → Bool
  | .directive => true
  | .note => true
  | _ => false

/-- The two credit-return fields of header byte 1 (R28). -/
structure Credits where
  req : BitVec 4
  rep : BitVec 4
  deriving DecidableEq, Repr

/-- A request as it is held in a lane: its header fields other than the credit-return fields, and its carried words.
`addr` is read for the memory kinds, CLAIM and RELEASE; `target`, `source` and `hop` for DIRECTIVE and NOTE; `command`
for DIRECTIVE. A field that the kind does not have is 0 (R28). -/
structure Request where
  kind : ReqKind
  tag : Tag
  length : BitVec 5
  addr : Addr
  target : Byte
  source : Byte
  hop : Byte
  command : Byte
  payload : List Word
  deriving DecidableEq, Repr

/-- A REPLY: tag, status byte and carried words. Its length field is its carried count (R27; log entry
10). -/
structure Reply where
  tag : Tag
  status : Byte
  payload : List Word
  deriving DecidableEq, Repr

/-- A parcel with its fill left out (R28). -/
inductive Parcel where
  | hello (node : Node) (reqOffer repOffer : Byte) (seen : Bool)
  | credit (credits : Credits)
  | request (credits : Credits) (r : Request)
  | reply (credits : Credits) (r : Reply)
  deriving DecidableEq, Repr

/-- What a receiver makes of the bytes of one parcel: damaged (R10, R25), good with an unknown kind code (R27), or good
and of a known kind. -/
inductive Received where
  | damaged
  | unknownKind
  | parcel (p : Parcel)
  deriving DecidableEq, Repr

/-- The reply statuses this router makes itself (R33). A relayed reply may carry any status byte (R32). -/
inductive Status where
  | ok
  | noRoute
  | denied
  | noLink
  | fenced
  | tagInUse
  | hopLimit
  | malformed
  | timeout
  | linkLost
  | held
  | noLock
  | notHolder
  | badCommand
  | badArgument
  | notManager
  | invalidEntry
  | lockConflict
  deriving DecidableEq, Repr

/-- The status code in byte 4 of a REPLY header (R33). -/
def Status.code : Status → Byte
  | .ok => 0x00#8
  | .noRoute => 0x10#8
  | .denied => 0x11#8
  | .noLink => 0x12#8
  | .fenced => 0x13#8
  | .tagInUse => 0x14#8
  | .hopLimit => 0x15#8
  | .malformed => 0x16#8
  | .timeout => 0x20#8
  | .linkLost => 0x21#8
  | .held => 0x28#8
  | .noLock => 0x29#8
  | .notHolder => 0x2A#8
  | .badCommand => 0x30#8
  | .badArgument => 0x31#8
  | .notManager => 0x32#8
  | .invalidEntry => 0x33#8
  | .lockConflict => 0x34#8

/-- The directive commands (R34). -/
inductive Command where
  | identify
  | portStatus
  | portEnable
  | portDisable
  | portRestart
  | fence
  | unfence
  | setQuota
  | setDeadline
  | setTombstone
  | setLockLimit
  | resetRouter
  | tableWrite
  | tableRead
  | tableClear
  | commit
  | discard
  | trackRead
  | lockRead
  | breakLock
  | nodeSet
  | nodeRead
  | setNode
  | setManager
  | faultRead
  | faultPop
  | faultPolicy
  | alertSet
  | alertArm
  deriving DecidableEq, Repr

/-- All commands of the table of R34. -/
def allCommands : List Command :=
  [.identify, .portStatus, .portEnable, .portDisable, .portRestart, .fence, .unfence, .setQuota, .setDeadline,
   .setTombstone, .setLockLimit, .resetRouter, .tableWrite, .tableRead, .tableClear, .commit, .discard, .trackRead,
   .lockRead, .breakLock, .nodeSet, .nodeRead, .setNode, .setManager, .faultRead, .faultPop, .faultPolicy,
   .alertSet, .alertArm]

/-- The command code in byte 7 of a DIRECTIVE header (R34). -/
def Command.code : Command → Byte
  | .identify => 0x01#8
  | .portStatus => 0x02#8
  | .portEnable => 0x03#8
  | .portDisable => 0x04#8
  | .portRestart => 0x05#8
  | .fence => 0x06#8
  | .unfence => 0x07#8
  | .setQuota => 0x08#8
  | .setDeadline => 0x09#8
  | .setTombstone => 0x0A#8
  | .setLockLimit => 0x0B#8
  | .resetRouter => 0x0F#8
  | .tableWrite => 0x10#8
  | .tableRead => 0x11#8
  | .tableClear => 0x12#8
  | .commit => 0x13#8
  | .discard => 0x14#8
  | .trackRead => 0x20#8
  | .lockRead => 0x28#8
  | .breakLock => 0x29#8
  | .nodeSet => 0x30#8
  | .nodeRead => 0x31#8
  | .setNode => 0x32#8
  | .setManager => 0x33#8
  | .faultRead => 0x40#8
  | .faultPop => 0x41#8
  | .faultPolicy => 0x42#8
  | .alertSet => 0x43#8
  | .alertArm => 0x44#8

/-- The read-only commands change no state; every other command is modifying (R34, R139). -/
def Command.readOnly : Command → Bool
  | .identify => true
  | .portStatus => true
  | .tableRead => true
  | .trackRead => true
  | .lockRead => true
  | .nodeRead => true
  | .faultRead => true
  | _ => false

/-- The number of argument words of a command (R34). -/
def Command.argCount : Command → Nat
  | .identify => 0
  | .portStatus => 1
  | .portEnable => 1
  | .portDisable => 1
  | .portRestart => 1
  | .fence => 1
  | .unfence => 1
  | .setQuota => 2
  | .setDeadline => 2
  | .setTombstone => 1
  | .setLockLimit => 1
  | .resetRouter => 0
  | .tableWrite => 5
  | .tableRead => 2
  | .tableClear => 0
  | .commit => 0
  | .discard => 0
  | .trackRead => 1
  | .lockRead => 0
  | .breakLock => 1
  | .nodeSet => 2
  | .nodeRead => 0
  | .setNode => 1
  | .setManager => 1
  | .faultRead => 1
  | .faultPop => 2
  | .faultPolicy => 1
  | .alertSet => 1
  | .alertArm => 0

/-- The command that a code names, if any (R34). -/
def commandOfCode (c : Byte) : Option Command :=
  allCommands.find? fun k => k.code == c

end Sys2Proof.Machine
end

