-- ==== Sys2Proof/Machine/State.lean ====
section
/-! DEFINITION. The state of the IR-6: everything the manual gives the router, as plain data, and its value after a cold
reset. -/

namespace Sys2Proof.Machine

open Sys2Proof

/-! ### Faults and refusals of the model -/

/-- Reasons for which the model stops with a fault. The manual gives every event of the router an effect in every state,
so there are none: nobody raises one. -/
inductive Fault where
  deriving DecidableEq, Repr

/-- Reasons for which the model refuses a command. -/
inductive Refusal where
  /-- Raised by an arm of `exec` whose command has no meaning yet; safe, since the model stops. No arm raises it now. -/
  | notModelled (mnemonic : String)
  deriving DecidableEq, Repr

/-! ### Window Table (chapter 3) -/

/-- One entry of a bank of the Window Table, with the ranges that can be stored (R43). -/
structure WindowEntry where
  valid : Bool
  translated : Bool
  exponent : BitVec 6
  origins : BitVec 6
  kinds : BitVec 5
  dest : BitVec 3
  base : Addr
  translatedBase : Addr
  deriving DecidableEq, Repr

/-- The entry with every field 0 (R45). -/
def WindowEntry.zero : WindowEntry :=
  { valid := false, translated := false, exponent := 0#6, origins := 0#6, kinds := 0#5, dest := 0#3, base := 0#48,
    translatedBase := 0#48 }

/-- A bank of 48 entries (R43). -/
abbrev Bank := Vector WindowEntry 48

/-- The Window Table: two banks and the generation number (R44, R45, R54). -/
structure WindowTable where
  active : Bank
  staging : Bank
  generation : BitVec 16
  deriving DecidableEq, Repr

/-! ### Dispatch Stages (chapters 3 and 4) -/

/-- The answer of a lookup (R47 to R50). -/
inductive LookupAnswer where
  | routed (window : Fin 48) (dest : Port) (outAddr : Addr)
  | noRoute
  | denied (window : Fin 48)
  deriving DecidableEq, Repr

/-- What a head was resolved to: the fields of R51 for an address, and of R65 for a DIRECTIVE or NOTE. -/
inductive Route where
  /-- A memory head that a window routes to an output (R51). -/
  | memory (window : Fin 48) (dest : Port) (outAddr : Addr)
  /-- A head whose lookup answered NO_ROUTE (R51). -/
  | noWindow
  /-- A head whose lookup answered DENIED (R51). -/
  | windowDenied (window : Fin 48)
  /-- A CLAIM or RELEASE: its lookup and the Lock Table's answer (R65, R71). -/
  | pathLock (window : Fin 48) (dest : Port) (outAddr : Addr) (answer : Status)
  /-- A directive for this router (R70). -/
  | management
  /-- A directive or note forwarded on an output (R70). -/
  | forward (out : Port) (target : Node)
  /-- A directive refused by the node resolution (R70). -/
  | nodeRefused (status : Status)
  deriving DecidableEq, Repr

/-- A resolution record: the route and the generation in force when the head was resolved (R51, R65). -/
structure Resolution where
  route : Route
  generation : BitVec 16
  deriving DecidableEq, Repr

/-- The state of a Dispatch Stage (R65). `unexamined` is the model's own: a parcel that has become the head and whose
first examination comes within the same event. An ANSWERED head refused before it was resolved has no record. -/
inductive HeadState where
  | empty
  | unexamined
  | offered (res : Resolution)
  | lockWait (res : Resolution)
  | answered (res : Option Resolution) (reply : Reply)
  deriving DecidableEq, Repr

/-! ### Links (chapter 1) and Reply Queues (chapter 4) -/

/-- Link states (1.2). -/
inductive LinkState where
  | off
  | training
  | up
  | halted
  deriving DecidableEq, Repr

/-- A pair of counts, one for each lane: credits and offers. -/
structure LanePair where
  req : Nat
  rep : Nat
  deriving DecidableEq, Repr

/-- A reply waiting to leave, and whether a deferred action is tied to it (R135). -/
structure QueuedReply where
  reply : Reply
  tied : Bool
  deriving DecidableEq, Repr

/-- The parcel a transmitter is sending, and whether a deferred action is tied to it (R19, R135). -/
structure Transmission where
  parcel : Parcel
  tied : Bool
  deriving DecidableEq, Repr

/-- Everything that exists once for each link: the port record (1.1), its two timers, its transmitter (1.6), its
Dispatch Stage (4.1), its Output Arbiter's pointer (R77; 6 is M), its Reply Queue (R83) and that queue's admission
pointer (R84; 0 to 5 are reply lanes, 6 the Dispatch Stage, 7 the Management Unit). -/
structure PortRec where
  link : LinkState
  attempts : Nat
  heard : Bool
  seen : Bool
  peerNode : Option Node
  offers : Option LanePair
  credits : LanePair
  owed : LanePair
  reqLane : List Request
  repLane : List Reply
  fenced : Bool
  fencedDrops : Nat
  /-- The HELLO timer; none while it does not run (R3, R6). -/
  helloTimer : Option Nat
  /-- The attempt timer; none while it does not run (R3, R6). -/
  attemptTimer : Option Nat
  /-- The parcel in transmission (R19). -/
  tx : Option Transmission
  /-- HELLOs waiting for the transmitter: periodic ones in TRAINING, the closing one in UP (R3, R6; log
  entry 14). -/
  helloDue : Nat
  head : HeadState
  /-- The model's own: a re-examination of the head is due within the same event (R66). -/
  recheck : Bool
  arbPointer : Fin 7
  replyQueue : List QueuedReply
  queuePointer : Fin 8
  deriving DecidableEq, Repr

/-! ### Tracking Table (chapter 5) -/

/-- The kind of a tracked request, with its window index or target node (R87). -/
inductive TrackKind where
  | fetch (window : Fin 48)
  | storeC (window : Fin 48)
  | swap (window : Fin 48)
  | directive (target : Node)
  deriving DecidableEq, Repr

/-- The status a REPLY_DUE entry still owes (R87). -/
inductive OwedStatus where
  | timeout
  | linkLost
  deriving DecidableEq, Repr

/-- The states of an entry that is not FREE, with the field each state alone has (R87). -/
inductive TrackState where
  | active (inHand : Bool)
  | orphaned
  | replyDue (status : OwedStatus)
  | tombstone
  deriving DecidableEq, Repr

/-- A tracking entry that is not FREE (R87). -/
structure TrackEntry where
  state : TrackState
  origin : Port
  tag : Tag
  dest : Port
  kind : TrackKind
  generation : BitVec 16
  time : Nat
  deriving DecidableEq, Repr

/-! ### Lock Table (chapter 6) -/

/-- A HELD lock record (R105). -/
structure Lock where
  window : Fin 48
  holder : Port
  hold : Nat
  deriving DecidableEq, Repr

/-! ### Node Table and Management Unit (chapter 7) -/

/-- An entry of the Node Table (R123). -/
inductive NodeEntry where
  | self
  | unreachable
  | port (p : Port)
  deriving DecidableEq, Repr

/-- The directive in execution (R130). -/
structure Directive where
  origin : Port
  tag : Tag
  command : Byte
  length : BitVec 5
  args : List Word
  deriving DecidableEq, Repr

/-- The state of the Management Unit (R130). -/
inductive MgmtState where
  | idle
  | executing (d : Directive)
  | replyHeld (origin : Port) (reply : QueuedReply)
  deriving DecidableEq, Repr

/-- What a deferred action does (R136). -/
inductive ActionKind where
  | disable (p : Port)
  | restart (p : Port)
  | resetRouter
  | setNode (n : Node)
  deriving DecidableEq, Repr

/-- A pending action. The replies that carry `tied` on one origin leave in the order in which their actions stand in the
list, so an action is tied by its origin and its place (R135; log entry 17). -/
structure PendingAction where
  kind : ActionKind
  origin : Port
  deriving DecidableEq, Repr

/-- The configuration (R145). -/
structure Settings where
  quota : Vector Nat 6
  deadline : Vector Nat 6
  tombstone : Nat
  holdLimit : Nat
  alertNode : Option Node
  deriving DecidableEq, Repr

/-! ### Fault List and alerts (chapter 9) -/

/-- The fault kinds (R166). -/
inductive FaultKind where
  | linkCheck
  | linkLost
  | linkHalted
  | overrun
  | malformed
  | noRoute
  | denied
  | noLink
  | hopLimit
  | replyTimeout
  | lateReply
  | strayReply
  | lockBroken
  | managerLost
  | unhandledNote
  | warmReset
  deriving DecidableEq, Repr

/-- What a block hands to the Fault List: the kind and the optional fields (R165, R166). -/
structure FaultReport where
  kind : FaultKind
  port : Option Port := none
  tag : Option Tag := none
  addr : Option Addr := none
  index : Option (BitVec 6) := none
  detail : Option Byte := none
  deriving DecidableEq, Repr

/-- A fault record (R165). -/
structure FaultRecord where
  seq : BitVec 16
  stamp : BitVec 32
  report : FaultReport
  deriving DecidableEq, Repr

/-- The policies of the Fault List (R169). -/
inductive Policy where
  | keepOldest
  | keepNewest
  deriving DecidableEq, Repr

/-- The Fault List: records oldest first, next sequence number, policy (R168, R169). -/
structure FaultList where
  records : List FaultRecord
  nextSeq : BitVec 16
  policy : Policy
  deriving DecidableEq, Repr

/-- A queued alert note, the output it is offered at, and whether its transmission has begun (R176, R179). -/
structure QueuedNote where
  out : Port
  note : Request
  sending : Bool
  deriving DecidableEq, Repr

/-- The alert path (R176). -/
structure AlertPath where
  armed : Bool
  pending : Bool
  queued : Option QueuedNote
  deriving DecidableEq, Repr

/-! ### The whole router -/

/-- The state of the router.

`pending` is the queue of commands that are waiting, first in, first out; `freeUsed` counts the free choices already
taken (log entry 1). Both are the model's own. -/
structure State where
  /-- The model's command queue. -/
  pending : List Instr
  /-- RST# is low (R182). -/
  resetLow : Bool
  /-- The open-drain output FLT# is driven low (R170). -/
  fltLow : Bool
  /-- The Time Base count, in µs (R185). -/
  time : BitVec 32
  /-- The node number (R122). -/
  node : Node
  /-- The Node Table (R123). -/
  nodeTable : Vector NodeEntry 32
  /-- Everything held once for each link. -/
  ports : Vector PortRec 6
  /-- The M arbiter's pointer (R82). -/
  mPointer : Fin 6
  /-- The Window Table (R43). -/
  windows : WindowTable
  /-- The Tracking Table; none is FREE (R87). -/
  track : Vector (Option TrackEntry) 64
  /-- The Lock Table; none is FREE (R105). -/
  locks : Vector (Option Lock) 4
  /-- The Management Unit (R130). -/
  mgmt : MgmtState
  /-- The pending actions, oldest first (R135). -/
  actions : List PendingAction
  /-- The manager port, or unset (R140). -/
  manager : Option Port
  /-- The configuration (R145). -/
  settings : Settings
  /-- The Fault List (R169). -/
  faultList : FaultList
  /-- The alert path (R176). -/
  alert : AlertPath
  /-- The model's count of free choices taken (log entry 1). -/
  freeUsed : Nat
  deriving DecidableEq, Repr

/-- The HELLO a router with this node number sends first in a training: offers 12 and 8, seen flag clear (R4). -/
def firstHello (n : Node) : Parcel :=
  .hello n (BitVec.ofNat 8 Config.requestLaneSlots) (BitVec.ofNat 8 Config.replyLaneSlots) false

/-- A port after a cold reset: TRAINING, its first attempt begun and its first HELLO being sent (R1, R3, R183). -/
def PortRec.cold (n : Node) : PortRec :=
  { link := .training, attempts := 0, heard := false, seen := false, peerNode := none, offers := none,
    credits := ⟨0, 0⟩, owed := ⟨0, 0⟩, reqLane := [], repLane := [], fenced := false, fencedDrops := 0,
    helloTimer := some Config.helloPeriod, attemptTimer := some Config.attemptPeriod,
    tx := some ⟨firstHello n, false⟩, helloDue := 0, head := .empty, recheck := false, arbPointer := 6,
    replyQueue := [], queuePointer := 7 }

/-- The configuration after a cold reset (R145). -/
def Settings.cold : Settings :=
  { quota := Vector.replicate 6 Config.defaultQuota, deadline := Vector.replicate 6 Config.defaultDeadline,
    tombstone := Config.defaultTombstone, holdLimit := Config.defaultHoldLimit, alertNode := none }

/-- The router just after the rising edge of RST#, with the strapped node number and manager port (the table of R183). -/
def State.cold (n : Node) (manager : Option Port) : State :=
  { pending := [], resetLow := false, fltLow := false, time := 0#32, node := n,
    nodeTable := (Vector.replicate 32 NodeEntry.unreachable).set n .self,
    ports := Vector.replicate 6 (PortRec.cold n), mPointer := 5,
    windows := { active := Vector.replicate 48 .zero, staging := Vector.replicate 48 .zero, generation := 0#16 },
    track := Vector.replicate 64 none, locks := Vector.replicate 4 none, mgmt := .idle, actions := [],
    manager := manager, settings := .cold, faultList := { records := [], nextSeq := 0#16, policy := .keepOldest },
    alert := { armed := false, pending := false, queued := none }, freeUsed := 0 }

/-- The machine right after a cold reset with the straps at NODE = 0 and MGR = 7, so that the manager port is unset.
The strap levels belong to the board: DESIGN CHOICE, log entry 2. -/
def State.reset : State := State.cold 0 none

end Sys2Proof.Machine
end

