-- ==== Sys2Proof/Machine/Ops.lean ====
section
/-! DEFINITION. The named operations that several blocks share: access to a port, the Fault List and the alert path
(chapter 9), a head or a reply leaving its lane (R13, R14), and the transmitter's HELLOs (R3, R4). -/

namespace Sys2Proof.Machine

open Sys2Proof

/-! ### Ports -/

/-- Everything held for port `p`. -/
def State.port (s : State) (p : Port) : PortRec := s.ports[p]

/-- Change what is held for port `p`. -/
def State.modifyPort (s : State) (p : Port) (f : PortRec → PortRec) : State :=
  { s with ports := s.ports.set p (f (s.port p)) }

/-- The link of `p` is UP. -/
def State.isUp (s : State) (p : Port) : Bool := (s.port p).link == .up

/-! ### Alerts (9.5) -/

/-- The sequence number most recently given out: the next one less one, with 65535 before 0 (R168). -/
def lastSeq (s : State) : BitVec 16 := s.faultList.nextSeq - 1#16

/-- The alert note for node `n` as it is built now (R42, R178). -/
def buildNote (n : Node) (s : State) : Request :=
  { kind := .note, tag := 0#8, length := 2#5, addr := 0#48, target := BitVec.ofNat 8 n.val,
    source := BitVec.ofNat 8 s.node.val, hop := 15#8, command := 0#8,
    payload := [(lastSeq s).setWidth 32, BitVec.ofNat 32 s.faultList.records.length] }

/-- The port that the Node Table gives for the alert node, if its link is UP (R178). -/
def alertRoute (s : State) : Option (Node × Port) :=
  match s.settings.alertNode with
  | none => none
  | some n =>
    match s.nodeTable[n] with
    | .port p => if s.isUp p then some (n, p) else none
    | _ => none

/-- The route check: a pending alert with no queued note is built and queued if its node has a route that is UP (R178). -/
def routeCheck (s : State) : State :=
  if s.alert.pending && s.alert.queued.isNone then
    match alertRoute s with
    | none => s
    | some (n, p) =>
      { s with alert := { s.alert with pending := false, queued := some ⟨p, buildNote n s, false⟩ } }
  else s

/-- Set the pending flag, or join the pending alert, with the route check for a newly pending one (R177). -/
def setPendingAlert (s : State) : State :=
  if s.alert.pending then s else routeCheck { s with alert := { s.alert with pending := true } }

/-- A record was kept, or ALERT_ARM found records: raise an alert if the flag is armed and the alert node is set (R177). -/
def raiseAlert (s : State) : State :=
  if s.alert.armed && s.settings.alertNode.isSome then
    setPendingAlert { s with alert := { s.alert with armed := false } }
  else s

/-- The queued note is withdrawn and its alert returns to pending, without a route check (R179). -/
def withdrawNote (s : State) : State :=
  match s.alert.queued with
  | none => s
  | some _ => { s with alert := { s.alert with queued := none, pending := true } }

/-! ### Fault List (9.3) -/

/-- The record of a report raised now (R165, R168, R187). -/
def faultRecord (r : FaultReport) (s : State) : FaultRecord := ⟨s.faultList.nextSeq, s.time, r⟩

/-- The records after one more fault is raised, by the policy (R169). -/
def keepRecord (policy : Policy) (records : List FaultRecord) (r : FaultRecord) : List FaultRecord :=
  if records.length < Config.faultListSlots then records ++ [r]
  else match policy with
    | .keepOldest => records
    | .keepNewest => records.drop 1 ++ [r]

/-- A raised fault is kept when there is room, or under KEEP_NEWEST (R169). -/
def isKept (policy : Policy) (records : List FaultRecord) : Bool :=
  records.length < Config.faultListSlots || policy == .keepNewest

/-- Raise a fault: it takes the next sequence number and the Time Base count, is kept or not by the policy, drives FLT#
when kept, and may raise an alert (R168, R169, R170, R177). -/
def raiseFault (r : FaultReport) (s : State) : State :=
  let kept := isKept s.faultList.policy s.faultList.records
  let s1 : State :=
    { s with
      faultList := { s.faultList with
        records := keepRecord s.faultList.policy s.faultList.records (faultRecord r s)
        nextSeq := s.faultList.nextSeq + 1#16 }
      fltLow := s.fltLow || kept }
  if kept then raiseAlert s1 else s1

/-! ### Lanes (1.4, 1.5) -/

/-- The state of the Dispatch Stage whose head has left a lane: the parcel behind it becomes the head (R65). -/
def headAfter (lane : List Request) : HeadState :=
  if lane.isEmpty then .empty else .unexamined

/-- One slot of the request lane is freed and one request credit becomes owed, at most the lane's capacity (R13, R17;
log entry 11). -/
def popHead (p : Port) (s : State) : State :=
  s.modifyPort p fun r =>
    match r.reqLane with
    | [] => { r with head := .empty, recheck := false }
    | _ :: rest =>
      { r with reqLane := rest, head := headAfter rest, recheck := false,
               owed := { r.owed with req := min (r.owed.req + 1) Config.requestLaneSlots } }

/-- One slot of the reply lane is freed and one reply credit becomes owed, at most the lane's capacity (R14, R17;
log entry 11). -/
def popReply (p : Port) (s : State) : State :=
  s.modifyPort p fun r =>
    match r.repLane with
    | [] => r
    | _ :: rest =>
      { r with repLane := rest, owed := { r.owed with rep := min (r.owed.rep + 1) Config.replyLaneSlots } }

/-- Credit returns are added to the transmit credits, each capped at the peer's offer (R16). -/
def takeCredits (p : Port) (c : Credits) (s : State) : State :=
  s.modifyPort p fun r =>
    match r.offers with
    | none => r
    | some o =>
      { r with credits := ⟨min (r.credits.req + c.req.toNat) o.req, min (r.credits.rep + c.rep.toNat) o.rep⟩ }

/-- The owed credits of a port as they are written into a header (R17). -/
def owedCredits (r : PortRec) : Credits := ⟨BitVec.ofNat 4 r.owed.req, BitVec.ofNat 4 r.owed.rep⟩

/-- The transmitter begins a parcel other than a HELLO: the owed credits are in its header and become 0 (R17;
log entry 8). -/
def beginParcel (p : Port) (parcel : Parcel) (tied : Bool) (s : State) : State :=
  s.modifyPort p fun r => { r with tx := some ⟨parcel, tied⟩, owed := ⟨0, 0⟩ }

/-! ### HELLOs (1.2) -/

/-- The HELLO that a port sends now: the node number in force, offers 12 and 8, and the seen flag set if the heard mark
is set (R4). -/
def helloNow (n : Node) (r : PortRec) : Parcel :=
  .hello n (BitVec.ofNat 8 Config.requestLaneSlots) (BitVec.ofNat 8 Config.replyLaneSlots) r.heard

/-- Send a HELLO: at once when the transmitter is free, otherwise after the parcel being sent (R3). -/
def sendHello (p : Port) (s : State) : State :=
  s.modifyPort p fun r =>
    match r.tx with
    | none => { r with tx := some ⟨helloNow s.node r, false⟩ }
    | some _ => { r with helloDue := r.helloDue + 1 }

/-- A free transmitter begins the next HELLO that waits (R3, R6). -/
def nextHello (p : Port) (s : State) : State :=
  s.modifyPort p fun r =>
    match r.tx, r.helloDue with
    | none, n + 1 => { r with tx := some ⟨helloNow s.node r, false⟩, helloDue := n }
    | _, _ => r

/-- A new attempt: the marks are cleared and the attempt timer starts at 200 µs (R3, R7). -/
def beginAttempt (p : Port) (s : State) : State :=
  s.modifyPort p fun r => { r with heard := false, seen := false, attemptTimer := some Config.attemptPeriod }

/-- Enter TRAINING: attempt count 0, a new attempt, a HELLO at once, the HELLO timer at 10 µs (R3). -/
def enterTraining (p : Port) (s : State) : State :=
  sendHello p
    (beginAttempt p
      (s.modifyPort p fun r => { r with link := .training, attempts := 0, helloTimer := some Config.helloPeriod }))

/-- The timers stop and the transmitter falls silent, as in OFF and HALTED (R8). A HELLO in transmission is abandoned:
DESIGN CHOICE, log entry 6. -/
def silence (r : PortRec) : PortRec :=
  { r with helloTimer := none, attemptTimer := none, tx := none, helloDue := 0 }

/-- Enter OFF: silent, with peer node and offers absent (R8). -/
def enterOff (p : Port) (s : State) : State :=
  s.modifyPort p fun r => { silence r with link := .off, peerNode := none, offers := none }

/-- Enter HALTED: silent, with peer node and offers kept (R8; log entry 18). -/
def enterHalted (p : Port) (s : State) : State :=
  s.modifyPort p fun r => { silence r with link := .halted }

/-- Enter UP: the timers stop, the transmit credits become the peer offers, nothing is owed, one closing HELLO is sent
before any other parcel, and the Fault List checks the alert route again (R6, R178). -/
def enterUp (p : Port) (s : State) : State :=
  routeCheck
    (sendHello p
      (s.modifyPort p fun r =>
        { r with link := .up, helloTimer := none, attemptTimer := none, credits := r.offers.getD ⟨0, 0⟩,
                 owed := ⟨0, 0⟩, helloDue := 0 }))

/-- A HELLO is accepted in TRAINING: marks, peer node and offers; with both marks set the port enters UP (R5, R6). -/
def acceptHello (p : Port) (node : Node) (offers : LanePair) (seenFlag : Bool) (s : State) : State :=
  let s1 := s.modifyPort p fun r =>
    { r with heard := true, seen := r.seen || seenFlag, peerNode := some node, offers := some offers }
  if (s1.port p).seen then enterUp p s1 else s1

/-- Offers in the ranges 1 to 12 and 1 to 8 (R5). -/
def offersGood (reqOffer repOffer : Byte) : Bool :=
  1 ≤ reqOffer.toNat && reqOffer.toNat ≤ Config.requestLaneSlots && 1 ≤ repOffer.toNat &&
    repOffer.toNat ≤ Config.replyLaneSlots

/-! ### Reply Queues: admission (4.6) -/

/-- The Reply Queue of `p` can admit a reply at once: `p` is UP and fewer than 8 replies are held (R83, R84). -/
def queueHasRoom (s : State) (p : Port) : Bool :=
  s.isUp p && (s.port p).replyQueue.length < Config.replyQueueSlots

/-- A reply joins the tail of the Reply Queue of `p` (R83). -/
def enqueueReply (p : Port) (q : QueuedReply) (s : State) : State :=
  s.modifyPort p fun r => { r with replyQueue := r.replyQueue ++ [q] }

/-- A reply of the second group is admitted, and the queue's pointer names its claimant (R84). -/
def admitClaimant (p : Port) (claimant : Fin 8) (q : QueuedReply) (s : State) : State :=
  s.modifyPort p fun r => { r with replyQueue := r.replyQueue ++ [q], queuePointer := claimant }

/-- The claimant that the reply lane of a port is (R84). -/
def laneClaimant (p : Port) : Fin 8 := ⟨p.val, by omega⟩

/-- The claimant that the Dispatch Stage is (R84). -/
def dispatchClaimant : Fin 8 := 6

/-- The claimant that the Management Unit is (R84). -/
def mgmtClaimant : Fin 8 := 7

/-- The Dispatch Stage of `p` offers the answer built for its head to the Reply Queue of `p`: admitted, the head leaves
its lane; otherwise the head waits in ANSWERED (R75). -/
def offerAnswer (p : Port) (res : Option Resolution) (reply : Reply) (s : State) : State :=
  if queueHasRoom s p then popHead p (admitClaimant p dispatchClaimant ⟨reply, false⟩ s)
  else s.modifyPort p fun r => { r with head := .answered res reply, recheck := false }

/-! ### The Tracking Table's entries -/

/-- Put a value into tracking entry `i`. -/
def setEntry (i : Fin 64) (e : Option TrackEntry) (s : State) : State :=
  { s with track := s.track.set i e }

/-- An entry enters TOMBSTONE with the tombstone interval in force (R99). -/
def toTombstone (i : Fin 64) (e : TrackEntry) (s : State) : State :=
  setEntry i (some { e with state := .tombstone, time := s.settings.tombstone }) s

/-- The status byte of a synthesized reply (R33). -/
def OwedStatus.status : OwedStatus → Status
  | .timeout => .timeout
  | .linkLost => .linkLost

/-- The synthesized reply of an entry: its origin tag, the status and no payload (R96, R101). -/
def synthReply (e : TrackEntry) (st : OwedStatus) : Reply := ⟨e.tag, st.status.code, []⟩

/-- Answer an entry with a synthesized reply: placed at once when the origin's queue has room, and the entry becomes
TOMBSTONE; otherwise the entry becomes REPLY_DUE (R96, R101). An origin that is not UP has no queue to wait for, and the
reply is discarded (R83; log entry 19). -/
def placeSynth (i : Fin 64) (e : TrackEntry) (st : OwedStatus) (s : State) : State :=
  if (s.port e.origin).replyQueue.length < Config.replyQueueSlots then
    if s.isUp e.origin then toTombstone i e (enqueueReply e.origin ⟨synthReply e st, false⟩ s)
    else toTombstone i e s
  else setEntry i (some { e with state := .replyDue st, time := 0 }) s

/-! ### Locks -/

/-- Put a value into lock record `r`. -/
def setLock (r : Fin 4) (l : Option Lock) (s : State) : State :=
  { s with locks := s.locks.set r l }

/-- A head that is examined again when the record of a lock changes: OFFERED or LOCK_WAIT (R66). -/
def HeadState.waiting : HeadState → Bool
  | .offered _ => true
  | .lockWait _ => true
  | _ => false

/-- Mark the heads of the ports that satisfy `which`, if they are OFFERED or in LOCK_WAIT, for examination within this
event (R66). -/
def markHeads (which : Port → PortRec → Bool) (s : State) : State :=
  { s with ports := s.ports.mapFinIdx fun i r h => if r.head.waiting && which ⟨i, h⟩ r then { r with recheck := true } else r }

/-- A lock record was taken or freed: every waiting head is examined again (R66). -/
def markForLocks (s : State) : State := markHeads (fun _ _ => true) s

/-- The causes of a break and their detail codes (R39, 6.6). -/
inductive BreakCause where
  | expired
  | link
  | fence
  | directive
  deriving DecidableEq, Repr

/-- The detail code of a break (R39). -/
def BreakCause.code : BreakCause → Byte
  | .expired => 1#8
  | .link => 2#8
  | .fence => 3#8
  | .directive => 4#8

/-- The LOCK_BROKEN fault of a record (R115). -/
def brokenReport (l : Lock) (cause : BreakCause) : FaultReport :=
  { kind := .lockBroken, port := some l.holder, index := some (BitVec.ofNat 6 l.window.val), detail := some cause.code }

/-- Break lock record `r`: FREE, one LOCK_BROKEN fault, and the waiting heads are examined again (R115). -/
def breakRecord (cause : BreakCause) (r : Fin 4) (s : State) : State :=
  match s.locks[r] with
  | none => s
  | some l => markForLocks (raiseFault (brokenReport l cause) (setLock r none s))

/-- Break record `r` if port `x` holds it. -/
def breakIfHeldBy (x : Port) (cause : BreakCause) (s : State) (r : Fin 4) : State :=
  match s.locks[r] with
  | none => s
  | some l => if l.holder = x then breakRecord cause r s else s

/-- Break every lock that port `x` holds, lowest record first (R115, R116, R117). -/
def breakHeldBy (x : Port) (cause : BreakCause) (s : State) : State :=
  [0, 1, 2, 3].foldl (breakIfHeldBy x cause) s

/-- The fenced flag of `p` is set. On a change from clear to set its locks are broken and its head is examined again
(R23, R66, R117). -/
def setFence (p : Port) (s : State) : State :=
  if (s.port p).fenced then s
  else
    markHeads (fun q _ => q == p)
      (breakHeldBy p .fence (s.modifyPort p fun r => { r with fenced := true }))

end Sys2Proof.Machine
end

