-- ==== Sys2Proof/Machine/Window.lean ====
section
/-! DEFINITION. The Window Table (chapter 3): the four-word layout of an entry, lookup, and the checks of COMMIT. -/

namespace Sys2Proof.Machine

open Sys2Proof

/-! ### The four words of an entry (R36) -/

/-- Word 1 of an entry (R36). -/
def entryWord1 (e : WindowEntry) : Word :=
  BitVec.ofBool e.valid ++ BitVec.ofBool e.translated ++ e.exponent ++ 0#2 ++ e.origins ++ 0#3 ++ e.kinds ++ 0#5 ++ e.dest

/-- Word 2 of an entry: the high halves of both bases (R36). -/
def entryWord2 (e : WindowEntry) : Word :=
  e.translatedBase.extractLsb' 32 16 ++ e.base.extractLsb' 32 16

/-- The four words of an entry (R36). -/
def entryWords (e : WindowEntry) : List Word :=
  [entryWord1 e, entryWord2 e, e.base.extractLsb' 0 32, e.translatedBase.extractLsb' 0 32]

/-- Every must-be-0 field of word 1 is 0 (R36). -/
def encodable (w1 : Word) : Bool :=
  w1.extractLsb' 22 2 == 0#2 && w1.extractLsb' 13 3 == 0#3 && w1.extractLsb' 3 5 == 0#5

/-- The entry that four words describe (R36). -/
def entryOfWords (w1 w2 w3 w4 : Word) : WindowEntry :=
  { valid := w1.getLsbD 31, translated := w1.getLsbD 30, exponent := w1.extractLsb' 24 6, origins := w1.extractLsb' 16 6,
    kinds := w1.extractLsb' 8 5, dest := w1.extractLsb' 0 3, base := w2.extractLsb' 0 16 ++ w3,
    translatedBase := w2.extractLsb' 16 16 ++ w4 }

/-! ### Lookup (3.3) -/

/-- The window spans 2^e bytes (R43). -/
def windowSize (e : WindowEntry) : Nat := 2 ^ e.exponent.toNat

/-- A valid entry whose window contains the address (R47). -/
def windowHolds (e : WindowEntry) (a : Addr) : Bool :=
  e.valid && e.base.toNat ≤ a.toNat && a.toNat < e.base.toNat + windowSize e

/-- The indices of a bank in order. -/
def windowIndices : List (Fin 48) := List.finRange 48

/-- The lowest-indexed valid entry whose window contains the address (R47). -/
def matchWindow (bank : Bank) (a : Addr) : Option (Fin 48) :=
  windowIndices.find? fun i => windowHolds bank[i] a

/-- The bit of the permitted-kinds field that a head's kind looks for (R36, R46). DIRECTIVE and NOTE are not looked up. -/
def kindBit : ReqKind → Nat
  | .fetch => 0
  | .store => 1
  | .storeC => 2
  | .swap => 3
  | _ => 4

/-- The span of a head in bytes (R46). -/
def spanLength (r : Request) : Nat :=
  match r.kind with
  | .claim => 4
  | .release => 4
  | _ => 4 * r.length.toNat

/-- The window admits the head: its origin port and its kind (R49). -/
def windowPermits (e : WindowEntry) (x : Port) (k : ReqKind) : Bool :=
  e.origins.getLsbD x.val && e.kinds.getLsbD (kindBit k)

/-- The outbound address: the offset within the window on the translated base, or the address as received (R50). -/
def outboundAddr (e : WindowEntry) (a : Addr) : Addr :=
  if e.translated then e.translatedBase + (a - e.base) else a

/-- The matching entry decides the span, the permissions and the route (R48, R49, R50). A stored destination of 6 or 7,
which no Active entry can hold (R44), is answered NO_ROUTE: DESIGN CHOICE, log entry 9. -/
def decideWindow (i : Fin 48) (e : WindowEntry) (x : Port) (r : Request) : LookupAnswer :=
  if e.base.toNat + windowSize e < r.addr.toNat + spanLength r then .noRoute
  else if windowPermits e x r.kind then
    match portOfNat e.dest.toNat with
    | none => .noRoute
    | some d => .routed i d (outboundAddr e r.addr)
  else .denied i

/-- The lookup of a head from input `x` on a bank (R46 to R50). -/
def lookup (bank : Bank) (x : Port) (r : Request) : LookupAnswer :=
  match matchWindow bank r.addr with
  | none => .noRoute
  | some i => decideWindow i bank[i] x r

/-! ### COMMIT (3.7) -/

/-- A base is aligned to the window's size and the window lies within 48 bits (R60). -/
def baseGood (e : WindowEntry) (b : Addr) : Bool :=
  b.toNat % windowSize e == 0 && b.toNat + windowSize e ≤ 2 ^ 48

/-- A valid entry passes validation (R60). -/
def entryPasses (e : WindowEntry) : Bool :=
  12 ≤ e.exponent.toNat && e.exponent.toNat ≤ 47 && baseGood e e.base &&
    (!e.translated || baseGood e e.translatedBase) && e.dest.toNat ≤ 5 && e.origins != 0#6 && e.kinds != 0#5

/-- The lowest index of a valid entry that fails validation (R60). -/
def firstFailing (bank : Bank) : Option (Fin 48) :=
  windowIndices.find? fun i => bank[i].valid && !entryPasses bank[i]

/-- Window `i` is locked (R61). -/
def windowLocked (locks : Vector (Option Lock) 4) (i : Fin 48) : Bool :=
  locks.toList.any fun l => match l with
    | none => false
    | some k => k.window == i

/-- The lowest index of a locked window whose Staging entry differs from its Active entry (R61). -/
def firstConflict (w : WindowTable) (locks : Vector (Option Lock) 4) : Option (Fin 48) :=
  windowIndices.find? fun i => windowLocked locks i && w.staging[i] != w.active[i]

/-- The Window Table after a successful COMMIT (R62). -/
def committed (w : WindowTable) : WindowTable :=
  { w with active := w.staging, generation := w.generation + 1#16 }

end Sys2Proof.Machine
end

