-- ==== Sys2Proof/Machine/Wire.lean ====
section
/-! DEFINITION. Parcels as bytes on a link: the size rule (R25), the check (R26), the kind codes (R27) and the header
layout (R28), read by the receiver and written by the transmitter. -/

namespace Sys2Proof.Machine

open Sys2Proof

/-- One bit of the check's shift register: generator 0x04C11DB7, most significant bit first (R26). -/
def crcShift (c : Word) : Word :=
  if c.msb then (c <<< 1) ^^^ 0x04C11DB7#32 else c <<< 1

/-- Enter one byte into the check, most significant bit first (R26). -/
def crcByte (c : Word) (b : Byte) : Word :=
  let c0 := c ^^^ ((b.setWidth 32) <<< 24)
  crcShift (crcShift (crcShift (crcShift (crcShift (crcShift (crcShift (crcShift c0)))))))

/-- The check of a header and payload: start 0xFFFFFFFF, inverted at the end (R26). -/
def crc (bytes : List Byte) : Word :=
  ~~~ (bytes.foldl crcByte 0xFFFFFFFF#32)

/-- A word as four bytes, most significant first (R25). -/
def bytesOfWord (w : Word) : List Byte :=
  [w.extractLsb' 24 8, w.extractLsb' 16 8, w.extractLsb' 8 8, w.extractLsb' 0 8]

/-- Payload words as bytes (R25). -/
def bytesOfWords (ws : List Word) : List Byte :=
  ws.flatMap bytesOfWord

/-- The payload words of a run of bytes, four at a time (R25). -/
def wordsOfBytes : List Byte → List Word
  | a :: b :: c :: d :: rest => (a ++ b ++ c ++ d) :: wordsOfBytes rest
  | _ => []

/-- The request kind of a kind code (R27). -/
def reqKindOfCode (b : Byte) : Option ReqKind :=
  [ReqKind.fetch, .store, .storeC, .swap, .claim, .release, .directive, .note].find? fun k => k.code == b

/-- Kind code of HELLO (R27). -/
def helloCode : Byte := 0x01#8

/-- Kind code of CREDIT (R27). -/
def creditCode : Byte := 0x02#8

/-- Kind code of REPLY (R27). -/
def replyCode : Byte := 0x30#8

/-- Bytes 4 to 9 of a header as one 48-bit field, most significant first (R28). -/
def addrOfBytes (b4 b5 b6 b7 b8 b9 : Byte) : Addr := b4 ++ b5 ++ b6 ++ b7 ++ b8 ++ b9

/-- The credit-return fields of header byte 1 (R28). -/
def creditsOfByte (b : Byte) : Credits := ⟨b.extractLsb' 4 4, b.extractLsb' 0 4⟩

/-- Header byte 1 (R28). -/
def byteOfCredits (c : Credits) : Byte := c.req ++ c.rep

/-- A good parcel's meaning by its kind code, from its first ten header bytes and its payload (R27, R28). Fill is not
examined. -/
def readHeader (b0 b1 b2 b3 b4 b5 b6 b7 b8 b9 : Byte) (payload : List Word) : Received :=
  if b0 = helloCode then
    .parcel (.hello (Fin.ofNat 32 b4.toNat) b5 b6 (b7.getLsbD 0))
  else if b0 = creditCode then .parcel (.credit (creditsOfByte b1))
  else if b0 = replyCode then .parcel (.reply (creditsOfByte b1) ⟨b2, b4, payload⟩)
  else match reqKindOfCode b0 with
    | none => .unknownKind
    | some k =>
      .parcel (.request (creditsOfByte b1)
        { kind := k
          tag := b2
          length := b3.extractLsb' 0 5
          addr := if k.byNode then 0#48 else addrOfBytes b4 b5 b6 b7 b8 b9
          target := if k.byNode then b4 else 0#8
          source := if k.byNode then b5 else 0#8
          hop := if k.byNode then b6 else 0#8
          command := if k = .directive then b7 else 0#8
          payload := payload })

/-- The header and payload of a parcel whose check is good (R28). -/
def readGood : List Byte → Received
  | b0 :: b1 :: b2 :: b3 :: b4 :: b5 :: b6 :: b7 :: b8 :: b9 :: _ :: _ :: _ :: _ :: _ :: _ :: rest =>
    readHeader b0 b1 b2 b3 b4 b5 b6 b7 b8 b9 (wordsOfBytes rest)
  | _ => .damaged

/-- A parcel's size is 20 + 4k bytes with k from 0 to 16; any other size is damaged (R25). -/
def sizeGood (n : Nat) : Bool := 20 ≤ n && n ≤ 84 && n % 4 == 0

/-- What the receiver makes of the bytes of one parcel (R10, R25, R26, R27). -/
def parse (bytes : List Byte) : Received :=
  if sizeGood bytes.length then
    let body := bytes.take (bytes.length - 4)
    if bytesOfWord (crc body) = bytes.drop (bytes.length - 4) then readGood body else .damaged
  else .damaged

/-- Header bytes 4 to 9 of a request as sent; fill is zero (R28). -/
def requestField (r : Request) : List Byte :=
  if r.kind.byNode then
    [r.target, r.source, r.hop, if r.kind = .directive then r.command else 0#8, 0#8, 0#8]
  else
    [r.addr.extractLsb' 40 8, r.addr.extractLsb' 32 8, r.addr.extractLsb' 24 8, r.addr.extractLsb' 16 8,
     r.addr.extractLsb' 8 8, r.addr.extractLsb' 0 8]

/-- Header bytes 10 to 15 are fill (R28). -/
def tailFill : List Byte := [0#8, 0#8, 0#8, 0#8, 0#8, 0#8]

/-- The header and payload of a parcel as the router sends it (R28). -/
def bodyBytes : Parcel → List Byte
  | .hello n req rep seen =>
    [helloCode, 0#8, 0#8, 0#8, BitVec.ofNat 8 n.val, req, rep, if seen then 1#8 else 0#8, 0#8, 0#8] ++ tailFill
  | .credit c => [creditCode, byteOfCredits c, 0#8, 0#8, 0#8, 0#8, 0#8, 0#8, 0#8, 0#8] ++ tailFill
  | .request c r =>
    [r.kind.code, byteOfCredits c, r.tag, r.length.setWidth 8] ++ requestField r ++ tailFill ++ bytesOfWords r.payload
  | .reply c r =>
    [replyCode, byteOfCredits c, r.tag, BitVec.ofNat 8 r.payload.length, r.status, 0#8, 0#8, 0#8, 0#8, 0#8] ++ tailFill
      ++ bytesOfWords r.payload

/-- The bytes of a parcel on the link: header, payload and check (R25, R26). -/
def wireBytes (p : Parcel) : List Byte :=
  let body := bodyBytes p
  body ++ bytesOfWord (crc body)

/-- The fields a request's kind does not have are 0, as every received request has them (R28). -/
def Request.fieldsWf (r : Request) : Bool :=
  (if r.kind.byNode then r.addr == 0#48 else r.target == 0#8 && r.source == 0#8 && r.hop == 0#8) &&
  (r.kind == .directive || r.command == 0#8)

/-- A parcel that fits the format: at most 16 payload words, absent fields 0. -/
def Parcel.wf : Parcel → Bool
  | .hello .. => true
  | .credit _ => true
  | .request _ r => r.payload.length ≤ 16 && r.fieldsWf
  | .reply _ r => r.payload.length ≤ 16

/-- The details of a malformed request, first in the order of R29. -/
inductive Malformation where
  | length
  | align
  | node
  | hop
  deriving DecidableEq, Repr

/-- The detail code of a MALFORMED answer or fault (R39). -/
def Malformation.code : Malformation → Byte
  | .length => 2#8
  | .align => 3#8
  | .node => 4#8
  | .hop => 5#8

/-- The LENGTH condition of R29. -/
def lengthBad (r : Request) : Bool :=
  let n := r.length.toNat
  let k := r.payload.length
  match r.kind with
  | .fetch => n == 0 || 16 < n || k != 0
  | .store => n == 0 || 16 < n || k != n
  | .storeC => n == 0 || 16 < n || k != n
  | .swap => n == 0 || 2 < n || k != n
  | .claim => n != 0 || k != 0
  | .release => n != 0 || k != 0
  | .directive => 8 < n || k != n
  | .note => n != 2 || k != 2

/-- The first malformation of a request head, in the order LENGTH, ALIGN, NODE, HOP (R29). -/
def malformation (r : Request) : Option Malformation :=
  if lengthBad r then some .length
  else if r.kind.byNode then
    if 31 < r.target.toNat || 31 < r.source.toNat then some .node
    else if 15 < r.hop.toNat then some .hop
    else none
  else if r.addr.extractLsb' 0 2 != 0#2 then some .align
  else none

end Sys2Proof.Machine
end

