-- ==== Sys2Proof/Machine/Heads.lean ====
section
/-! DEFINITION. The Dispatch Stages (chapter 4, 4.1 to 4.3) and the Lock Table's decisions (chapter 6): the first
examination of a head and every later one. -/

namespace Sys2Proof.Machine

open Sys2Proof

/-! ### Refusals and drops -/

/-- Refuse or answer a head: the reply carries the head's tag, the status and the payload, and is offered to the Reply
Queue of its input (R75). -/
def refuse (x : Port) (res : Option Resolution) (h : Request) (st : Status) (payload : List Word) (s : State) : State :=
  offerAnswer x res ⟨h.tag, st.code, payload⟩ s

/-- Drop a posted head with its fault: the head leaves the lane in this event (R76). -/
def dropWithFault (x : Port) (report : FaultReport) (s : State) : State :=
  popHead x (raiseFault report s)

/-- A head that a check stops: a non-posted head is refused, a posted head is dropped with its fault (R67). -/
def stopHead (x : Port) (res : Option Resolution) (h : Request) (st : Status) (report : FaultReport) (s : State) : State :=
  if h.kind.posted then dropWithFault x report s else refuse x res h st [] s

/-! ### Step 1: the fence (R68) -/

/-- An UNFENCE directive on the port that is the manager port when the head is examined (R68). -/
def unfenceOfManager (x : Port) (h : Request) (s : State) : Bool :=
  h.kind == .directive && h.command == Command.unfence.code && s.manager == some x

/-- The one head that passes a set fence at its first examination: such an UNFENCE whose target is the router's own node
number, which is read then (R68, R122). -/
def passesFence (x : Port) (h : Request) (s : State) : Bool :=
  unfenceOfManager x h s && h.target.toNat == s.node.val

/-- At a later examination such an UNFENCE passes again if it was resolved to this router at the first one, whatever the
node number is now (R68, R122, R126). -/
def passesAgain (x : Port) (h : Request) (res : Resolution) (s : State) : Bool :=
  unfenceOfManager x h s && res.route == .management

/-- The fence check stops a head that has no pass (R68). -/
def fenceStops (x : Port) (passes : Bool) (s : State) : Bool := (s.port x).fenced && !passes

/-- A posted head is dropped by the fence and counted, saturating, with no fault (R24, R68). -/
def countFencedDrop (x : Port) (s : State) : State :=
  s.modifyPort x fun r => { r with fencedDrops := min (r.fencedDrops + 1) Config.maxFencedDrops }

/-- The outcome of the fence check for a head it stops (R68). -/
def stopByFence (x : Port) (res : Option Resolution) (h : Request) (s : State) : State :=
  if h.kind.posted then popHead x (countFencedDrop x s) else refuse x res h .fenced [] s

/-! ### Step 2: well-formedness (R29, R30) -/

/-- The outcome for a malformed head (R30). -/
def stopMalformed (x : Port) (h : Request) (m : Malformation) (s : State) : State :=
  if h.kind.posted then
    dropWithFault x { kind := .malformed, port := some x, tag := some h.tag, detail := some m.code } s
  else refuse x none h .malformed [m.code.setWidth 32] s

/-! ### Steps 6 to 8: output link, lock, offer (R72, R73, R74) -/

/-- The output that a route leads to, if it leads to a link. -/
def Route.output : Route → Option Port
  | .memory _ d _ => some d
  | .forward p _ => some p
  | _ => none

/-- The window index of a memory head (R73). -/
def Route.lockedWindow : Route → Option (Fin 48)
  | .memory w _ _ => some w
  | _ => none

/-- A lock record that holds window `i` for a port other than `x` (R73, R108). -/
def heldByOther (x : Port) (i : Fin 48) (l : Option Lock) : Bool :=
  match l with
  | none => false
  | some k => k.window == i && k.holder != x

/-- A lock record that holds window `i` for port `x` (R108, R111). -/
def heldBy (x : Port) (i : Fin 48) (l : Option Lock) : Bool :=
  match l with
  | none => false
  | some k => k.window == i && k.holder == x

/-- The lock check stops the head (R73). -/
def lockStops (x : Port) (rt : Route) (s : State) : Bool :=
  match rt.lockedWindow with
  | none => false
  | some i => s.locks.toList.any (heldByOther x i)

/-- The NO_LINK fault of a posted head: with the address for a STORE (R72, R76). -/
def noLinkReport (x : Port) (h : Request) : FaultReport :=
  { kind := .noLink, port := some x, addr := if h.kind == .store then some h.addr else none }

/-- The head takes a state in which it waits, and the examination is over. -/
def setHead (x : Port) (st : HeadState) (s : State) : State :=
  s.modifyPort x fun r => { r with head := st, recheck := false }

/-- Steps 7 and 8: a memory head whose window another port holds waits; every other head is offered (R73, R74). -/
def lockOrOffer (x : Port) (res : Resolution) (s : State) : State :=
  if lockStops x res.route s then setHead x (.lockWait res) s else setHead x (.offered res) s

/-- Steps 6 to 8, for a head resolved to an output or to the Management Unit (R72, R73, R74). -/
def outputChecks (x : Port) (h : Request) (res : Resolution) (s : State) : State :=
  match res.route.output with
  | none => lockOrOffer x res s
  | some d =>
    if s.isUp d then lockOrOffer x res s
    else stopHead x (some res) h .noLink (noLinkReport x h) s

/-! ### Step 5: the Lock Table (R108, R111) -/

/-- The record numbers in order. -/
def lockIndices : List (Fin 4) := [0, 1, 2, 3]

/-- The Lock Table's decision on a CLAIM from `x` for window `i` (R108). -/
def decideClaim (x : Port) (i : Fin 48) (s : State) : Status × State :=
  match lockIndices.find? fun r => heldBy x i s.locks[r] with
  | some r => (.ok, setLock r (some ⟨i, x, s.settings.holdLimit⟩) s)
  | none =>
    if s.locks.toList.any (heldByOther x i) then (.held, s)
    else
      match lockIndices.find? fun r => s.locks[r].isNone with
      | some r => (.ok, markForLocks (setLock r (some ⟨i, x, s.settings.holdLimit⟩) s))
      | none => (.noLock, s)

/-- The Lock Table's decision on a RELEASE from `x` for window `i` (R111). -/
def decideRelease (x : Port) (i : Fin 48) (s : State) : Status × State :=
  match lockIndices.find? fun r => heldBy x i s.locks[r] with
  | some r => (.ok, markForLocks (setLock r none s))
  | none => (.notHolder, s)

/-- Step 5: a ROUTED CLAIM or RELEASE is decided by the Lock Table, and its answer is built and offered (R71). -/
def answerPathLock (x : Port) (h : Request) (i : Fin 48) (d : Port) (out : Addr) (s : State) : State :=
  let decision := if h.kind == .claim then decideClaim x i s else decideRelease x i s
  refuse x (some ⟨.pathLock i d out decision.1, s.windows.generation⟩) h decision.1 [] decision.2

/-! ### Steps 3 and 4: resolution (R69, R70) -/

/-- Step 3 and what follows it, for a head looked up in the Window Table (R69). -/
def resolveAddress (x : Port) (h : Request) (s : State) : State :=
  let g := s.windows.generation
  match lookup s.windows.active x h with
  | .noRoute =>
    stopHead x (some ⟨.noWindow, g⟩) h .noRoute { kind := .noRoute, port := some x, addr := some h.addr } s
  | .denied i =>
    stopHead x (some ⟨.windowDenied i, g⟩) h .denied
      { kind := .denied, port := some x, addr := some h.addr, index := some (BitVec.ofNat 6 i.val) } s
  | .routed i d out =>
    if h.kind == .claim || h.kind == .release then answerPathLock x h i d out s
    else outputChecks x h ⟨.memory i d out, g⟩ s

/-- The HOP_LIMIT fault of a head (R70). -/
def hopReport (x : Port) (h : Request) : FaultReport :=
  { kind := .hopLimit, port := some x, detail := some h.target }

/-- A head for another node whose hop limit is 0: refused or dropped, with a fault in either case (R70). -/
def stopByHopLimit (x : Port) (h : Request) (s : State) : State :=
  if h.kind.posted then dropWithFault x (hopReport x h) s
  else
    refuse x (some ⟨.nodeRefused .hopLimit, s.windows.generation⟩) h .hopLimit [] (raiseFault (hopReport x h) s)

/-- A head for another node, by the Node Table (R70). An entry SELF of a number that is not the router's own, which R123
rules out, counts as UNREACHABLE. -/
def resolveForward (x : Port) (h : Request) (s : State) : State :=
  let n : Node := Fin.ofNat 32 h.target.toNat
  match s.nodeTable[n] with
  | .port p => outputChecks x h ⟨.forward p n, s.windows.generation⟩ s
  | _ =>
    stopHead x (some ⟨.nodeRefused .noRoute, s.windows.generation⟩) h .noRoute { kind := .noRoute, port := some x } s

/-- Step 4: a DIRECTIVE or NOTE is resolved by its target node (R70). -/
def resolveNode (x : Port) (h : Request) (s : State) : State :=
  if h.target.toNat == s.node.val then
    if h.kind.posted then
      dropWithFault x { kind := .unhandledNote, port := some x, detail := some h.source } s
    else setHead x (.offered ⟨.management, s.windows.generation⟩) s
  else if h.hop == 0#8 then stopByHopLimit x h s
  else resolveForward x h s

/-! ### Examinations (R66, R67) -/

/-- The first examination of the head of input `x` (R67). -/
def examineHead (x : Port) (s : State) : State :=
  match (s.port x).reqLane with
  | [] => setHead x .empty s
  | h :: _ =>
    if fenceStops x (passesFence x h s) s then stopByFence x none h s
    else
      match malformation h with
      | some m => stopMalformed x h m s
      | none => if h.kind.byNode then resolveNode x h s else resolveAddress x h s

/-- The checks of a later examination: fence, output link, lock, on the resolution already held (R66). The node number is
not read again (R122). -/
def recheckHeld (x : Port) (h : Request) (res : Resolution) (s : State) : State :=
  if fenceStops x (passesAgain x h res s) s then stopByFence x (some res) h s else outputChecks x h res s

/-- A later examination of the head of input `x` (R66). -/
def reexamineHead (x : Port) (s : State) : State :=
  let r := s.port x
  match r.reqLane, r.head with
  | h :: _, .offered res => recheckHeld x h res s
  | h :: _, .lockWait res => recheckHeld x h res s
  | _, st => setHead x st s

end Sys2Proof.Machine
end

