-- ==== Sys2Proof/Machine/Arbiters.lean ====
section
/-! DEFINITION. The Output Arbiters, the M arbiter, the slots of the Reply Queues (chapter 4, 4.4 to 4.6) and the
allocation of tracking entries (chapter 5, 5.3). -/

namespace Sys2Proof.Machine

open Sys2Proof

/-! ### The Tracking Table: allocation (5.3) -/

/-- The indices of the Tracking Table in order. -/
def trackIndices : List (Fin 64) := List.finRange 64

/-- An entry counts toward its origin's quota in ACTIVE, ORPHANED and REPLY_DUE (R91). -/
def TrackState.counts : TrackState → Bool
  | .tombstone => false
  | _ => true

/-- An entry blocks the reuse of its origin tag in ACTIVE and REPLY_DUE (R89). -/
def TrackState.blocksTag : TrackState → Bool
  | .active _ => true
  | .replyDue _ => true
  | _ => false

/-- An entry counts toward the quota of origin `x` (R91). -/
def countsFor (x : Port) (e : Option TrackEntry) : Bool :=
  match e with
  | none => false
  | some t => t.origin == x && t.state.counts

/-- An entry blocks the tag of a request from `x` (R89). -/
def blocksTagOf (x : Port) (tag : Tag) (e : Option TrackEntry) : Bool :=
  match e with
  | none => false
  | some t => t.origin == x && t.tag == tag && t.state.blocksTag

/-- The number of entries that origin `x` holds in ACTIVE, ORPHANED or REPLY_DUE (R91). -/
def originCount (s : State) (x : Port) : Nat := s.track.toList.countP (countsFor x)

/-- The lowest-indexed FREE entry (R89). -/
def lowestFree (s : State) : Option (Fin 64) := trackIndices.find? fun i => s.track[i].isNone

/-- The answers to an allocation request (R80). -/
inductive AllocAnswer where
  | entry (i : Fin 64)
  | tagInUse
  | noEntry
  deriving DecidableEq, Repr

/-- The Tracking Table's answer to an allocation request for a head of `x` with this tag (R89). -/
def allocate (s : State) (x : Port) (tag : Tag) : AllocAnswer :=
  if s.track.toList.any (blocksTagOf x tag) then .tagInUse
  else match lowestFree s with
    | none => .noEntry
    | some i => if s.settings.quota[x] ≤ originCount s x then .noEntry else .entry i

/-- The kind field of the entry of a head (R90). A head that no entry tracks has none. -/
def trackKind (k : ReqKind) (rt : Route) : Option TrackKind :=
  match k, rt with
  | .fetch, .memory w _ _ => some (.fetch w)
  | .storeC, .memory w _ _ => some (.storeC w)
  | .swap, .memory w _ _ => some (.swap w)
  | .directive, .forward _ n => some (.directive n)
  | _, _ => none

/-- The entry allocated for a head of `x` that leaves on `out` (R90). -/
def newEntry (s : State) (x out : Port) (h : Request) (res : Resolution) (k : TrackKind) : TrackEntry :=
  { state := .active false, origin := x, tag := h.tag, dest := out, kind := k, generation := res.generation,
    time := s.settings.deadline[out] }

/-! ### Reply Queue slots (R84) -/

/-- Entry `e` waits in REPLY_DUE for a slot of the Reply Queue of `x` (R98). -/
def owesReplyTo (x : Port) (e : Option TrackEntry) : Bool :=
  match e with
  | some ⟨.replyDue _, o, _, _, _, _, _⟩ => o == x
  | _ => false

/-- The entry index that a reply's tag names (R93). -/
def entryIndex (t : Tag) : Option (Fin 64) := if h : t.toNat < 64 then some ⟨t.toNat, h⟩ else none

/-- The reply in hand at the head of the reply lane of `p`: the reply, its entry's index and its entry (R94). -/
def replyInHand (p : Port) (s : State) : Option (Reply × Fin 64 × TrackEntry) :=
  match (s.port p).repLane with
  | [] => none
  | r :: _ =>
    match entryIndex r.tag with
    | none => none
    | some i =>
      match s.track[i] with
      | none => none
      | some e => if e.state = .active true ∧ e.dest = p then some (r, i, e) else none

/-- A relayed reply is admitted: the origin tag is restored, the entry becomes FREE and the lane slot is freed (R94). -/
def relayReply (p : Port) (r : Reply) (i : Fin 64) (e : TrackEntry) (s : State) : State :=
  popReply p (setEntry i none (admitClaimant e.origin (laneClaimant p) ⟨{ r with tag := e.tag }, false⟩ s))

/-- Claimant `c` waits for a slot of the Reply Queue of `x` (R84). -/
def claimantWaits (x : Port) (s : State) (c : Fin 8) : Bool :=
  match portOfNat c.val with
  | some p =>
    match replyInHand p s with
    | some (_, _, e) => e.origin == x
    | none => false
  | none =>
    if c = dispatchClaimant then
      match (s.port x).head with
      | .answered _ _ => true
      | _ => false
    else
      match s.mgmt with
      | .replyHeld o _ => o == x
      | _ => false

/-- A waiting claimant of the Reply Queue of `x` is admitted (R84, R75, R94, R133). -/
def admitWaiting (x : Port) (c : Fin 8) (s : State) : State :=
  match portOfNat c.val with
  | some p =>
    match replyInHand p s with
    | some (r, i, e) => relayReply p r i e s
    | none => s
  | none =>
    if c = dispatchClaimant then
      match (s.port x).head with
      | .answered _ reply => popHead x (admitClaimant x dispatchClaimant ⟨reply, false⟩ s)
      | _ => s
    else
      match s.mgmt with
      | .replyHeld _ q => { admitClaimant x mgmtClaimant q s with mgmt := .idle }
      | _ => s

/-- The owed reply of a REPLY_DUE entry is built and admitted, and the entry becomes TOMBSTONE (R98). -/
def serveReplyDue (x : Port) (i : Fin 64) (s : State) : State :=
  match s.track[i] with
  | some e =>
    match e.state with
    | .replyDue st => toTombstone i e (enqueueReply x ⟨synthReply e st, false⟩ s)
    | _ => s
  | none => s

/-- A slot freed by the start of a reply's transmission is given out: to the lowest-indexed REPLY_DUE entry of that
origin, otherwise to the first waiting claimant after the pointer (R84). -/
def giveSlot (x : Port) (s : State) : State :=
  match trackIndices.find? fun i => owesReplyTo x s.track[i] with
  | some i => serveReplyDue x i s
  | none =>
    match (cyclicAfter (s.port x).queuePointer).find? (claimantWaits x s) with
    | some c => admitWaiting x c s
    | none => s

/-! ### Output Arbiters (4.4) -/

/-- The head of input `x` with its resolution, if it is OFFERED at output `out` (R74). -/
def offeredAt (out : Port) (x : Port) (s : State) : Option (Request × Resolution) :=
  match (s.port x).reqLane, (s.port x).head with
  | h :: _, .offered res => if res.route.output = some out then some (h, res) else none
  | _, _ => none

/-- An alert note is a candidate of input M at `out`: queued there, its transmission not begun (R81). -/
def noteOffered (out : Port) (s : State) : Option QueuedNote :=
  match s.alert.queued with
  | none => none
  | some q => if q.out = out ∧ q.sending = false then some q else none

/-- A non-posted head of `x` may be given an entry: one is FREE and the origin is under its quota (R74). -/
def trackingRoom (s : State) (x : Port) : Bool :=
  (lowestFree s).isSome && originCount s x < s.settings.quota[x]

/-- The candidate of an input (0 to 5 are links, 6 is M) at `out` is eligible (R74, R81). -/
def eligible (s : State) (out : Port) (i : Fin 7) : Bool :=
  match portOfNat i.val with
  | none => (noteOffered out s).isSome
  | some x =>
    match offeredAt out x s with
    | none => false
    | some (h, _) => h.kind.posted || trackingRoom s x

/-- The header of a request as it leaves: tag, address and hop limit rewritten (R31). -/
def outboundRequest (h : Request) (rt : Route) (tag : Tag) : Request :=
  match rt with
  | .memory _ _ out => { h with tag := tag, addr := out }
  | _ => { h with tag := tag, hop := h.hop - 1#8 }

/-- One request transmit credit of `out` is taken (R15). -/
def takeRequestCredit (out : Port) (s : State) : State :=
  s.modifyPort out fun r => { r with credits := { r.credits with req := r.credits.req - 1 } }

/-- A grant at `out`: the parcel begins transmission, the credit is taken, the pointer names the granted input (R77,
R79). -/
def beginGrant (out : Port) (i : Fin 7) (r : Request) (s : State) : State :=
  (takeRequestCredit out (beginParcel out (.request (owedCredits (s.port out)) r) false s)).modifyPort out
    fun p => { p with arbPointer := i }

/-- The head of `x` is granted at `out` and leaves its lane (R79). -/
def grantHead (out x : Port) (i : Fin 7) (r : Request) (s : State) : State :=
  popHead x (beginGrant out i r s)

/-- The alert note is granted at `out` (R81). -/
def grantNote (out : Port) (q : QueuedNote) (s : State) : State :=
  beginGrant out 6 q.note { s with alert := { s.alert with queued := some { q with sending := true } } }

/-- What comes of asking to grant one candidate. -/
inductive GrantResult where
  | granted (s : State)
  | passed (s : State)

/-- Ask to grant the candidate of input `i` at `out` (R79, R80). -/
def tryInput (out : Port) (i : Fin 7) (s : State) : GrantResult :=
  match portOfNat i.val with
  | none =>
    match noteOffered out s with
    | none => .passed s
    | some q => .granted (grantNote out q s)
  | some x =>
    match offeredAt out x s with
    | none => .passed s
    | some (h, res) =>
      match trackKind h.kind res.route with
      | none => .granted (grantHead out x i (outboundRequest h res.route h.tag) s)
      | some k =>
        match allocate s x h.tag with
        | .entry j =>
          .granted (grantHead out x i (outboundRequest h res.route (BitVec.ofNat 8 j.val))
            (setEntry j (some (newEntry s x out h res k)) s))
        | .tagInUse => .passed (refuse x (some res) h .tagInUse [] s)
        | .noEntry => .passed s

/-- Choose among the eligible candidates in order; after TAG_IN_USE or no entry, choose again among the rest (R80). A hairpin
head refused TAG_IN_USE puts its reply into the queue of this very output: that the rest is gone through before that reply is
sent is a DESIGN CHOICE, log entry 21. -/
def tryInputs (out : Port) : List (Fin 7) → State → State
  | [], s => s
  | i :: rest, s =>
    if eligible s out i then
      match tryInput out i s with
      | .granted t => t
      | .passed t => tryInputs out rest t
    else tryInputs out rest s

/-- The oldest reply begins transmission: a reply credit is taken and the slot it frees is given out (R78, R84). -/
def sendReply (out : Port) (s : State) : State :=
  match (s.port out).replyQueue with
  | [] => s
  | q :: rest =>
    giveSlot out
      ((beginParcel out (.reply (owedCredits (s.port out)) q.reply) q.tied s).modifyPort out fun r =>
        { r with replyQueue := rest, credits := { r.credits with rep := r.credits.rep - 1 } })

/-- A CREDIT carrying the owed credits begins transmission (R17; log entry 7). -/
def sendCredit (out : Port) (s : State) : State :=
  beginParcel out (.credit (owedCredits (s.port out))) false s

/-- The arbiter has a reply it may send (R78). -/
def replyReady (r : PortRec) : Bool := !r.replyQueue.isEmpty && 0 < r.credits.rep

/-- The arbiter has a request it may grant (R79). -/
def requestReady (s : State) (out : Port) : Bool :=
  0 < (s.port out).credits.req && (cyclicAfter (s.port out).arbPointer).any (eligible s out)

/-- Credits are owed to the peer (R17). -/
def creditsOwed (r : PortRec) : Bool := 0 < r.owed.req || 0 < r.owed.rep

/-- The transmitter of `out` may take a parcel from its arbiter: UP, closing HELLO sent, nothing in transmission (R77). -/
def transmitterReady (r : PortRec) : Bool := r.link == .up && r.tx.isNone && r.helloDue == 0

/-- The transmitter of `out` has something to send now (R77). -/
def canSend (s : State) (out : Port) : Bool :=
  transmitterReady (s.port out) &&
    (replyReady (s.port out) || requestReady s out || creditsOwed (s.port out))

/-- One choice at output `out`: replies first, then one request, otherwise a CREDIT (R17, R77, R78, R79). -/
def chooseNext (out : Port) (s : State) : State :=
  if replyReady (s.port out) then sendReply out s
  else if requestReady s out then tryInputs out (cyclicAfter (s.port out).arbPointer) s
  else sendCredit out s

/-! ### The M arbiter (R82) -/

/-- The head of `x`, if it is OFFERED at the M arbiter (R82). -/
def offeredAtM (x : Port) (s : State) : Option Request :=
  match (s.port x).reqLane, (s.port x).head with
  | h :: _, .offered res => if res.route = .management then some h else none
  | _, _ => none

/-- The directive that a granted head becomes (R82, R130). -/
def directiveOf (x : Port) (h : Request) : Directive := ⟨x, h.tag, h.command, h.length, h.payload⟩

/-- The input that the M arbiter grants next (R82). -/
def nextAtM (s : State) : Option Port :=
  match s.mgmt with
  | .idle => (cyclicAfter s.mPointer).find? fun x => (offeredAtM x s).isSome
  | _ => none

/-- The M arbiter grants a directive, and the Management Unit enters EXECUTING (R82, R131). -/
def grantM (s : State) : State :=
  match nextAtM s with
  | none => s
  | some x =>
    match offeredAtM x s with
    | none => s
    | some h => { popHead x s with mgmt := .executing (directiveOf x h), mPointer := x }

end Sys2Proof.Machine
end

