-- ==== Sys2Proof/Machine/Link.lean ====
section
/-! DEFINITION. Link loss with its effects on every block (1.7, 5.9, R115 to R117, R134, R179), port control (R9), the
warm reset (8.7) and the deferred actions (7.5). -/

namespace Sys2Proof.Machine

open Sys2Proof

/-! ### Link loss (1.7) -/

/-- The causes of link loss (R20). -/
inductive LossCause where
  | linkCheck
  | peerRestart
  | overrunRequest
  | overrunReply
  | restart
  | disabled
  deriving DecidableEq, Repr

/-- An overrun of either lane also sets the fence (R18). -/
def LossCause.isOverrun : LossCause → Bool
  | .overrunRequest => true
  | .overrunReply => true
  | _ => false

/-- The one fault of a link loss on `x` (R20, R39). -/
def lossReport (x : Port) : LossCause → FaultReport
  | .linkCheck => { kind := .linkCheck, port := some x }
  | .peerRestart => { kind := .linkLost, port := some x, detail := some 1#8 }
  | .restart => { kind := .linkLost, port := some x, detail := some 2#8 }
  | .disabled => { kind := .linkLost, port := some x, detail := some 3#8 }
  | .overrunRequest => { kind := .overrun, port := some x, detail := some 1#8 }
  | .overrunReply => { kind := .overrun, port := some x, detail := some 2#8 }

/-- The Link Controller's effects on its own port: lanes, credits, peer, transmission and Reply Queue (R21, R85). An
overrun sets the fenced flag (R18). -/
def lossRecord (cause : LossCause) (r : PortRec) : PortRec :=
  { r with
    reqLane := [], repLane := [], credits := ⟨0, 0⟩, owed := ⟨0, 0⟩, peerNode := none, offers := none, tx := none,
    helloDue := 0, replyQueue := [], head := .empty, recheck := false, fenced := r.fenced || cause.isOverrun }

/-- The port leaves UP, for OFF on a disable request and otherwise for TRAINING (R21, R3). -/
def leaveUp (x : Port) (cause : LossCause) (s : State) : State :=
  let s1 := s.modifyPort x (lossRecord cause)
  if cause = .disabled then enterOff x s1 else enterTraining x s1

/-- What a link loss on `x` does to entry `i` when `x` is its origin and not its destination (R100, R85). -/
def originLost (i : Fin 64) (e : TrackEntry) (s : State) : State :=
  match e.state with
  | .active false => setEntry i (some { e with state := .orphaned }) s
  | .active true => popReply e.dest (setEntry i none s)
  | .replyDue _ => toTombstone i e s
  | _ => s

/-- What a link loss on `x` does to entry `i` when `x` is its destination and not its origin (R101). -/
def destinationLost (i : Fin 64) (e : TrackEntry) (s : State) : State :=
  match e.state with
  | .active _ => placeSynth i e .linkLost s
  | .orphaned => toTombstone i e s
  | _ => s

/-- What a link loss does to a hairpin entry of the lost port (R102). -/
def hairpinLost (i : Fin 64) (e : TrackEntry) (s : State) : State :=
  match e.state with
  | .active _ => toTombstone i e s
  | .replyDue _ => toTombstone i e s
  | _ => s

/-- The notice of a link loss on `x` at entry `i` (R100, R101, R102). -/
def lossAtEntry (x : Port) (s : State) (i : Fin 64) : State :=
  match s.track[i] with
  | none => s
  | some e =>
    if e.origin = x then
      if e.dest = x then hairpinLost i e s else originLost i e s
    else if e.dest = x then destinationLost i e s
    else s

/-- The notice of a link loss at the Tracking Table, from index 0 upward (5.9). -/
def lossAtTracking (x : Port) (s : State) : State := trackIndices.foldl (lossAtEntry x) s

/-- The alert note queued at `x` is withdrawn, and the route is checked after the loss has taken effect (R179). -/
def lossAtNote (x : Port) (s : State) : State :=
  match s.alert.queued with
  | none => s
  | some q => if q.out = x then routeCheck (withdrawNote s) else s

/-- A held reply for `x` is discarded and the Management Unit enters IDLE (R134). -/
def lossAtMgmt (x : Port) (s : State) : State :=
  match s.mgmt with
  | .replyHeld o _ => if o = x then { s with mgmt := .idle } else s
  | _ => s

/-- A head resolved to output `x` (R66, R72). -/
def headedFor (x : Port) (st : HeadState) : Bool :=
  match st with
  | .offered res => res.route.output == some x
  | .lockWait res => res.route.output == some x
  | _ => false

/-- The pending actions that a link loss on `x` sets off: those tied to a reply of `x` (R137). -/
def actionsOf (x : Port) (s : State) : List PendingAction := s.actions.filter fun a => a.origin == x

/-- Link loss on `x` with all its effects but the actions it sets off, which `actionsOf x` lists (R20, R21, R22). The
fault comes first (R116), then the notices in one order (R22; log
entry 12). -/
def loseLink (x : Port) (cause : LossCause) (s : State) : State :=
  let s1 := raiseFault (lossReport x cause) (leaveUp x cause s)
  let s2 := breakHeldBy x (if cause.isOverrun then .fence else .link) (lossAtTracking x s1)
  let s3 := markHeads (fun _ r => headedFor x r.head) s2
  let s4 := lossAtMgmt x (lossAtNote x s3)
  { s4 with actions := s4.actions.filter fun a => a.origin != x }

/-! ### Warm reset (8.7) -/

/-- A port record in the warm-reset column of R1, before a port that is not OFF begins its training (R159, R160). -/
def warmPort (r : PortRec) : PortRec :=
  { r with
    attempts := 0, heard := false, seen := false, peerNode := none, offers := none, credits := ⟨0, 0⟩,
    owed := ⟨0, 0⟩, reqLane := [], repLane := [], fenced := false, fencedDrops := 0, helloTimer := none,
    attemptTimer := none, tx := none, helloDue := 0, head := .empty, recheck := false, arbPointer := 6,
    replyQueue := [], queuePointer := 7 }

/-- The warm reset of one port: OFF stays OFF, every other port enters TRAINING (R2, R159). -/
def warmResetPort (s : State) (p : Port) : State :=
  let s1 := s.modifyPort p warmPort
  if (s.port p).link = .off then s1 else enterTraining p s1

/-- The warm reset of the blocks other than the ports (R160, R161, R162): what R163 lists is kept. -/
def warmBlocks (s : State) : State :=
  { s with mPointer := 5, track := Vector.replicate 64 none, locks := Vector.replicate 4 none, mgmt := .idle, actions := [] }

/-- The warm reset, with its one WARM_RESET fault, raised after a queued note has been withdrawn (R158 to R163, R171).
Its route check finds no link that is UP. -/
def warmReset (s : State) : State :=
  raiseFault { kind := .warmReset } (routeCheck (withdrawNote (warmBlocks (allPorts.foldl warmResetPort s))))

/-! ### Port control (R9) -/

/-- An enable request at `q` (R9, R148). -/
def enablePort (q : Port) (s : State) : State :=
  match (s.port q).link with
  | .off => enterTraining q s
  | .halted => enterTraining q s
  | _ => s

/-- A disable request at `q`, with the actions that its link loss sets off (R9, R149). -/
def disablePort (q : Port) (s : State) : State × List PendingAction :=
  match (s.port q).link with
  | .off => (s, [])
  | .up => (loseLink q .disabled s, actionsOf q s)
  | _ => (enterOff q s, [])

/-- A restart request at `q`, with the actions that its link loss sets off (R9, R150). -/
def restartPort (q : Port) (s : State) : State × List PendingAction :=
  match (s.port q).link with
  | .training => (enterTraining q s, [])
  | .up => (loseLink q .restart s, actionsOf q s)
  | _ => (s, [])

/-- The action of SET_NODE: SELF moves to the new number and the old entry becomes UNREACHABLE, with the route check of a
Node Table change (R126, R178). -/
def moveNode (n : Node) (s : State) : State :=
  if n = s.node then s
  else routeCheck { s with node := n, nodeTable := (s.nodeTable.set s.node .unreachable).set n .self }

/-! ### Deferred actions (7.5) -/

/-- Deferred actions take effect, oldest first. An action that causes a link loss sets off the actions of that port in
turn, and a warm reset discards all that remain (R136, R137, R138). The first argument bounds the number of actions. -/
def runActions : Nat → List PendingAction → State → State
  | 0, _, s => s
  | _ + 1, [], s => s
  | n + 1, a :: rest, s =>
    match a.kind with
    | .resetRouter => warmReset s
    | .setNode m => runActions n rest (moveNode m s)
    | .disable q => runActions n ((disablePort q s).2 ++ rest) (disablePort q s).1
    | .restart q => runActions n ((restartPort q s).2 ++ rest) (restartPort q s).1

/-- Run a list of actions that have left the pending list; every action runs at most once. -/
def takeActions (work : List PendingAction) (s : State) : State :=
  runActions (work.length + s.actions.length + 1) work s

/-- Link loss on `x` with everything it sets off (R20 to R22, R137). -/
def linkLoss (x : Port) (cause : LossCause) (s : State) : State :=
  takeActions (actionsOf x s) (loseLink x cause s)

/-- The oldest pending action of origin `x` leaves the list and takes effect: its tied reply has left (R136). -/
def releaseAction (x : Port) (s : State) : State :=
  match s.actions.find? fun a => a.origin == x with
  | none => s
  | some a => takeActions [a] { s with actions := s.actions.erase a }

end Sys2Proof.Machine
end

