-- ==== Sys2Proof/Machine/Settle.lean ====
section
/-! DEFINITION. What the router does by itself within an event, once the event's own effect is in place: heads are
examined, a held reply is placed, the arbiters choose. Where several blocks may act and the manual says that either may
be taken first, the order is the free value `Config.freeOrder` (log entry 1). -/

namespace Sys2Proof.Machine

open Sys2Proof

/-- An action that one block takes by itself within an event. -/
inductive Internal where
  /-- The first examination of a parcel that has become the head (R65, R67). -/
  | examine (x : Port)
  /-- A later examination of a head (R66). -/
  | reexamine (x : Port)
  /-- The Management Unit places the reply it has built, or holds, when there is room (R133). -/
  | placeReply
  /-- The M arbiter grants a directive (R82). -/
  | grantM
  /-- The Output Arbiter of a link chooses (R77). -/
  | choose (x : Port)
  deriving DecidableEq, Repr

/-- The reply that the Management Unit holds has room in its origin's Reply Queue (R133). -/
def replyPlaceable (s : State) : Bool :=
  match s.mgmt with
  | .replyHeld o _ => queueHasRoom s o
  | _ => false

/-- The reply that the Management Unit holds is admitted, and the unit enters IDLE (R133). -/
def placeReply (s : State) : State :=
  match s.mgmt with
  | .replyHeld o q => { admitClaimant o mgmtClaimant q s with mgmt := .idle }
  | _ => s

/-- The examinations and placements that belong to the event itself: they come before any arbiter chooses (R65, R66,
R133; log entry 15). -/
def dueNow (s : State) : List Internal :=
  (allPorts.filter fun x => (s.port x).head == .unexamined).map Internal.examine ++
  (allPorts.filter fun x => (s.port x).recheck).map Internal.reexamine ++
  (if replyPlaceable s then [.placeReply] else [])

/-- The choices that arbiters make whenever they can (R77, R82). -/
def arbiterChoices (s : State) : List Internal :=
  (if (nextAtM s).isSome then [.grantM] else []) ++ (allPorts.filter (canSend s)).map Internal.choose

/-- The internal actions that may be taken next. -/
def internalActions (s : State) : List Internal :=
  if (dueNow s).isEmpty then arbiterChoices s else dueNow s

/-- The effect of one internal action. -/
def doInternal (a : Internal) (s : State) : State :=
  match a with
  | .examine x => examineHead x s
  | .reexamine x => reexamineHead x s
  | .placeReply => placeReply s
  | .grantM => grantM s
  | .choose x => chooseNext x s

/-- Take one of the actions that may be taken: the only one, or one named by the free order (log entry 1). -/
def takeOne (first : Internal) (rest : List Internal) (s : State) : State :=
  if rest.isEmpty then doInternal first s
  else
    let k := Config.freeOrder s.freeUsed % (rest.length + 1)
    doInternal ((first :: rest).getD k first) { s with freeUsed := s.freeUsed + 1 }

/-- The work that is left at one port: each parcel of the request lane, the state of its head, a due re-examination and a
free transmitter. Every internal action lowers the sum. -/
def portWork (r : PortRec) : Nat :=
  27 * r.reqLane.length +
  (match r.head with
    | .unexamined => 14
    | .offered _ => 1
    | _ => 0) +
  (if r.recheck then 2 else 0) + (if r.tx.isNone then 1 else 0)

/-- The work that is left in the router, which bounds the internal actions of one event. -/
def workLeft (s : State) : Nat :=
  (allPorts.map fun p => portWork (s.port p)).sum + (match s.mgmt with | .replyHeld _ _ => 1 | _ => 0)

/-- Take internal actions until none may be taken; the first argument bounds their number. -/
def settleFor : Nat → State → State
  | 0, s => s
  | n + 1, s =>
    match internalActions s with
    | [] => s
    | a :: rest => settleFor n (takeOne a rest s)

/-- The router comes to rest after the event's own effect: every action that belongs to the event has been taken. -/
def settle (s : State) : State := settleFor (workLeft s) s

end Sys2Proof.Machine
end

