-- ==== Sys2Proof/Machine/Mgmt.lean ====
section
/-! DEFINITION. The Management Unit's execution of a directive (7.4, 7.6): the order of checks, the claim of the manager
port, the reply and the deferred action; and the result words of the commands that read (2.7). -/

namespace Sys2Proof.Machine

open Sys2Proof

/-- The outcome of one command of the router. -/
abbrev Result := Host.Outcome State Fault Refusal

/-- While RST# is low the router does nothing but wait for the rising edge (R182). -/
def whenRunning (s : State) (effect : State → State) : Result :=
  if s.resetLow then .next s else .next (effect s)

/-! ### The order of checks (R132) -/

/-- What executing a directive comes to: the state with the effect in it, the status and result words of the reply, and
the deferred action, if there is one (R133, R135). -/
structure DirResult where
  state : State
  status : Status
  payload : List Word
  action : Option ActionKind

/-- A reply with no effect beside what the state already has. -/
def reply (st : Status) (payload : List Word) (s : State) : DirResult := ⟨s, st, payload, none⟩

/-- OK with no payload (R34). -/
def okDone (s : State) : DirResult := reply .ok [] s

/-- OK with no payload, and a deferred action (R135). -/
def okDeferred (a : ActionKind) (s : State) : DirResult := ⟨s, .ok, [], some a⟩

/-- Step 2: a modifying command from a port that is not the manager port, or, with the manager port unset, from a port
that is HALTED (R132). -/
def authorityFails (c : Command) (d : Directive) (s : State) : Bool :=
  !c.readOnly &&
    match s.manager with
    | some m => m != d.origin
    | none => (s.port d.origin).link == .halted

/-- Step 5: a modifying command claims an unset manager port (R141). -/
def claimManager (c : Command) (d : Directive) (s : State) : State :=
  if c.readOnly || s.manager.isSome then s else { s with manager := some d.origin }

/-- The value checks of a command (step 4 of R132), which give its effect when they pass. -/
abbrev ValueChecks := List Word → State → Option (State → DirResult)

/-- Steps 2 to 6 for the execution of command `c` (R132). -/
def runCommand (c : Command) (checks : ValueChecks) (d : Directive) (s : State) : DirResult :=
  if authorityFails c d s then reply .notManager [] s
  else if d.length.toNat ≠ c.argCount then reply .badArgument [] s
  else
    match checks d.args s with
    | none => reply .badArgument [] s
    | some effect => effect (claimManager c d s)

/-- The pending action of a result, if there is one (R135). -/
def pendingOf (d : Directive) (r : DirResult) : List PendingAction :=
  match r.action with
  | none => []
  | some k => [⟨k, d.origin⟩]

/-- The reply is built and offered to the Reply Queue of the origin, where it waits if there is no room; with an origin
that is not UP it is discarded and a deferred action takes effect at once (R133, R135, R137). -/
def deliver (d : Directive) (r : DirResult) : State :=
  if r.state.isUp d.origin then
    { r.state with
      mgmt := .replyHeld d.origin ⟨⟨d.tag, r.status.code, r.payload⟩, r.action.isSome⟩
      actions := r.state.actions ++ pendingOf d r }
  else takeActions (pendingOf d r) { r.state with mgmt := .idle }

/-- The execution event of command `c`: it takes place when the Management Unit is EXECUTING a directive with its code
(R131). Otherwise there is no such event and nothing changes (log entry 3). -/
def executeCommand (c : Command) (checks : ValueChecks) (s : State) : Result :=
  whenRunning s fun s =>
    match s.mgmt with
    | .executing d => if d.command = c.code then settle (deliver d (runCommand c checks d s)) else s
    | _ => s

/-! ### Argument words (R35) -/

/-- A command with no argument words. -/
def noArgs (effect : State → DirResult) : ValueChecks
  | [], _ => some effect
  | _, _ => none

/-- A command with one argument word, a port. -/
def portArg (effect : Port → State → DirResult) : ValueChecks
  | [w], _ => (portOfNat w.toNat).map effect
  | _, _ => none

/-- A time of 10 to 65535 µs (R35). -/
def timeOf (w : Word) : Option Nat := if 10 ≤ w.toNat ∧ w.toNat ≤ 65535 then some w.toNat else none

/-- The word that stands for UNREACHABLE and for none (R35). -/
def noneWord : Word := 0xFFFFFFFF#32

/-! ### Result words (2.7) -/

/-- A flag as one bit of a result word. -/
def flag (b : Bool) : BitVec 1 := BitVec.ofBool b

/-- Bits of a result word from a count. -/
def bits (w n : Nat) : BitVec w := BitVec.ofNat w n

/-- The code of a link state (R37). -/
def LinkState.code : LinkState → BitVec 2
  | .off => 0#2
  | .training => 1#2
  | .up => 2#2
  | .halted => 3#2

/-- The three words of IDENTIFY (R41). -/
def identifyWords (s : State) : List Word :=
  [Config.vendorCode ++ Config.partCode,
   Config.revision ++ 0#4 ++ bits 8 s.faultList.records.length ++ 0#5 ++
     bits 3 (match s.manager with | some p => p.val | none => 7) ++ 0#3 ++ bits 5 s.node.val,
   0#16 ++ s.windows.generation]

/-- Word 1 of PORT_STATUS (R37). -/
def statusWord1 (p : Port) (s : State) : Word :=
  let r := s.port p
  0#1 ++ bits 7 (originCount s p) ++ flag r.peerNode.isSome ++ 0#2 ++
    bits 5 (match r.peerNode with | some n => n.val | none => 0) ++ 0#2 ++
    flag (s.manager == some p) ++ flag r.fenced ++ flag r.seen ++ flag r.heard ++ r.link.code ++ 0#1 ++
    bits 3 r.attempts ++ 0#1 ++ bits 3 p.val

/-- Word 2 of PORT_STATUS (R37). -/
def statusWord2 (r : PortRec) : Word :=
  0#4 ++ bits 4 r.replyQueue.length ++ bits 4 r.repLane.length ++ bits 4 r.reqLane.length ++ bits 4 r.owed.rep ++
    bits 4 r.owed.req ++ bits 4 r.credits.rep ++ bits 4 r.credits.req

/-- Word 3 of PORT_STATUS (R37). -/
def statusWord3 (r : PortRec) : Word :=
  let o := r.offers.getD ⟨0, 0⟩
  bits 16 r.fencedDrops ++ 0#7 ++ flag r.offers.isSome ++ bits 4 o.rep ++ bits 4 o.req

/-- Word 4 of PORT_STATUS (R37). -/
def statusWord4 (p : Port) (s : State) : Word :=
  0#9 ++ bits 7 s.settings.quota[p] ++ bits 16 s.settings.deadline[p]

/-- The four words of PORT_STATUS (R37). -/
def statusWords (p : Port) (s : State) : List Word :=
  [statusWord1 p s, statusWord2 (s.port p), statusWord3 (s.port p), statusWord4 p s]

/-- The code of an entry's state (R38). -/
def TrackState.code : TrackState → BitVec 3
  | .active _ => 1#3
  | .orphaned => 2#3
  | .replyDue _ => 3#3
  | .tombstone => 4#3

/-- The code of an entry's kind (R38). -/
def TrackKind.code : TrackKind → BitVec 2
  | .fetch _ => 0#2
  | .storeC _ => 1#2
  | .swap _ => 2#2
  | .directive _ => 3#2

/-- The window index or target node of an entry (R38). -/
def TrackKind.ref : TrackKind → BitVec 6
  | .fetch w => bits 6 w.val
  | .storeC w => bits 6 w.val
  | .swap w => bits 6 w.val
  | .directive n => bits 6 n.val

/-- The pending-status bits: present, and 1 for LINK_LOST (R38). -/
def TrackState.pendingBits : TrackState → BitVec 2
  | .replyDue .timeout => 2#2
  | .replyDue .linkLost => 3#2
  | _ => 0#2

/-- The two words of an entry (R38, R104). -/
def trackWords (e : Option TrackEntry) : List Word :=
  match e with
  | none => [0#32, 0#32]
  | some t =>
    [0#2 ++ t.kind.ref ++ t.tag ++ t.state.pendingBits ++ t.kind.code ++ 0#1 ++ bits 3 t.dest.val ++ 0#1 ++
       bits 3 t.origin.val ++ 0#1 ++ t.state.code,
     t.generation ++ bits 16 t.time]

/-- The word of a lock record (R39). -/
def lockWord (l : Option Lock) : Word :=
  match l with
  | none => 0#32
  | some k => 1#1 ++ 0#4 ++ bits 3 k.holder.val ++ 0#2 ++ bits 6 k.window.val ++ bits 16 k.hold

/-- The four bits of a Node Table entry (R39). -/
def NodeEntry.code : NodeEntry → BitVec 4
  | .port p => bits 4 p.val
  | .self => 0xE#4
  | .unreachable => 0xF#4

/-- Eight Node Table entries as a word, the first in bits 3 to 0 (R39). -/
def nodeWord (s : State) (k : Fin 4) : Word :=
  let e : Fin 8 → BitVec 4 := fun i => s.nodeTable[8 * k.val + i.val].code
  e 7 ++ e 6 ++ e 5 ++ e 4 ++ e 3 ++ e 2 ++ e 1 ++ e 0

/-- The code of a fault kind (R40). -/
def FaultKind.code : FaultKind → BitVec 5
  | .linkCheck => 1#5
  | .linkLost => 2#5
  | .linkHalted => 3#5
  | .overrun => 4#5
  | .malformed => 5#5
  | .noRoute => 6#5
  | .denied => 7#5
  | .noLink => 8#5
  | .hopLimit => 9#5
  | .replyTimeout => 10#5
  | .lateReply => 11#5
  | .strayReply => 12#5
  | .lockBroken => 13#5
  | .managerLost => 14#5
  | .unhandledNote => 15#5
  | .warmReset => 16#5

/-- Word 4 of a fault record: the low address bits, or the detail (R40). -/
def faultWord4 (r : FaultReport) : Word :=
  match r.addr with
  | some a => a.extractLsb' 0 32
  | none => (r.detail.getD 0#8).setWidth 32

/-- The four words of a fault record (R40). -/
def faultWords (f : FaultRecord) : List Word :=
  let r := f.report
  [f.seq ++ r.kind.code ++ flag r.detail.isSome ++ flag r.index.isSome ++ flag r.addr.isSome ++ flag r.tag.isSome ++
     flag r.port.isSome ++ 0#3 ++ bits 3 (match r.port with | some p => p.val | none => 0),
   f.stamp,
   (r.addr.getD 0#48).extractLsb' 32 16 ++ r.tag.getD 0#8 ++ r.index.getD 0#6 ++ 0#2,
   faultWord4 r]

end Sys2Proof.Machine
end

