-- ==== Sys2Proof/Machine/LinkEvents.lean ====
section
/-! DEFINITION. The events of the links: parcels that arrive (1.3), parcels that have left (1.6), and replies taken from a
reply lane (5.5). An event whose condition does not hold in the state, or whose bytes are not of its kind, does not take
place, and nothing changes (log entry 3). -/

namespace Sys2Proof.Machine

open Sys2Proof

/-- HELLO_ACCEPT: in TRAINING a good HELLO with offers in range is accepted; with both marks set the port enters UP (R5,
R6). -/
def execHelloAccept (p : Port) (bytes : List Byte) (s : State) : Result :=
  whenRunning s fun s =>
    match parse bytes, (s.port p).link with
    | .parcel (.hello n a b f), .training =>
      if offersGood a b then settle (acceptHello p n ⟨a.toNat, b.toNat⟩ f s) else s
    | _, _ => s

/-- The HELLO that restarted a link is accepted as the first HELLO of the new attempt, if the port is in TRAINING and the
offers are in range (R12, R5). -/
def firstOfTraining (p : Port) (n : Node) (a b : Byte) (f : Bool) (s : State) : State :=
  if (s.port p).link = .training ∧ offersGood a b = true then acceptHello p n ⟨a.toNat, b.toNat⟩ f s else s

/-- HELLO_RECEIVE_UP: in UP a HELLO with the seen flag set is discarded; with the flag clear it causes link loss and opens
the new training (R12). -/
def execHelloReceiveUp (p : Port) (bytes : List Byte) (s : State) : Result :=
  whenRunning s fun s =>
    match parse bytes, (s.port p).link with
    | .parcel (.hello n a b false), .up => settle (firstOfTraining p n a b false (linkLoss p .peerRestart s))
    | _, _ => s

/-- DAMAGED_PARCEL: ignored in TRAINING; link loss with LINK_CHECK in UP (R10). -/
def execDamagedParcel (p : Port) (bytes : List Byte) (s : State) : Result :=
  whenRunning s fun s =>
    match parse bytes, (s.port p).link with
    | .damaged, .up => settle (linkLoss p .linkCheck s)
    | _, _ => s

/-- PARCEL_DISCARD_INACTIVE: in OFF and HALTED a parcel is discarded unexamined (R8). -/
def execParcelDiscardInactive (_p : Port) (_bytes : List Byte) (s : State) : Result := .next s

/-- A request is stored at the tail of the request lane; in an empty lane it becomes the head (R11, R65). -/
def storeRequest (p : Port) (r : Request) (s : State) : State :=
  s.modifyPort p fun q =>
    { q with reqLane := q.reqLane ++ [r], head := if q.reqLane.isEmpty then .unexamined else q.head }

/-- A request arrives in UP: credits first, then the lane, or an overrun (R11, R16, R18). -/
def receiveRequest (p : Port) (c : Credits) (r : Request) (s : State) : State :=
  let s1 := takeCredits p c s
  if (s.port p).reqLane.length < Config.requestLaneSlots then storeRequest p r s1 else linkLoss p .overrunRequest s1

/-- REQUEST_PARCEL_RECEIVE (R11). -/
def execRequestParcelReceive (p : Port) (bytes : List Byte) (s : State) : Result :=
  whenRunning s fun s =>
    match parse bytes, (s.port p).link with
    | .parcel (.request c r), .up => settle (receiveRequest p c r s)
    | _, _ => s

/-- A reply is stored at the tail of the reply lane (R11). -/
def storeReply (p : Port) (r : Reply) (s : State) : State :=
  s.modifyPort p fun q => { q with repLane := q.repLane ++ [r] }

/-- A reply arrives in UP: credits first, then the lane, or an overrun (R11, R16, R18). -/
def receiveReply (p : Port) (c : Credits) (r : Reply) (s : State) : State :=
  let s1 := takeCredits p c s
  if (s.port p).repLane.length < Config.replyLaneSlots then storeReply p r s1 else linkLoss p .overrunReply s1

/-- REPLY_PARCEL_RECEIVE (R11). -/
def execReplyParcelReceive (p : Port) (bytes : List Byte) (s : State) : Result :=
  whenRunning s fun s =>
    match parse bytes, (s.port p).link with
    | .parcel (.reply c r), .up => settle (receiveReply p c r s)
    | _, _ => s

/-- CREDIT_RECEIVE: the returned credits are taken and the parcel is discarded (R11, R16). -/
def execCreditReceive (p : Port) (bytes : List Byte) (s : State) : Result :=
  whenRunning s fun s =>
    match parse bytes, (s.port p).link with
    | .parcel (.credit c), .up => settle (takeCredits p c s)
    | _, _ => s

/-- The MALFORMED fault of a parcel of unknown kind (R11, R39). -/
def unknownKindReport (p : Port) : FaultReport := { kind := .malformed, port := some p, detail := some 1#8 }

/-- UNKNOWN_KIND_RECEIVE: discarded, with a MALFORMED fault (R11). -/
def execUnknownKindReceive (p : Port) (bytes : List Byte) (s : State) : Result :=
  whenRunning s fun s =>
    match parse bytes, (s.port p).link with
    | .unknownKind, .up => settle (raiseFault (unknownKindReport p) s)
    | _, _ => s

/-- TRAINING_PARCEL_DISCARD: in TRAINING a good parcel that is not a HELLO is discarded, its credits not taken (R11). -/
def execTrainingParcelDiscard (_p : Port) (_bytes : List Byte) (s : State) : Result := .next s

/-- The alert note being sent at `p` has left: the queued note becomes none and a pending alert has its route checked
(R179). -/
def noteLeft (p : Port) (s : State) : State :=
  match s.alert.queued with
  | none => s
  | some q =>
    if q.out = p ∧ q.sending = true then routeCheck { s with alert := { s.alert with queued := none } } else s

/-- The parcel in transmission on `p` has left: the transmitter is free, a tied action takes effect, a sent alert note is
done, and a waiting HELLO follows (R3, R19, R136, R179). -/
def parcelGone (p : Port) (t : Transmission) (s : State) : State :=
  let s1 := noteLeft p (s.modifyPort p fun r => { r with tx := none })
  nextHello p (if t.tied then releaseAction p s1 else s1)

/-- PARCEL_LEFT (R19). -/
def execParcelLeft (p : Port) (s : State) : Result :=
  whenRunning s fun s =>
    match (s.port p).tx with
    | none => s
    | some t => settle (parcelGone p t s)

/-- A reply that no entry can take is discarded with its fault (R93). -/
def discardReply (p : Port) (kind : FaultKind) (r : Reply) (s : State) : State :=
  popReply p (raiseFault { kind := kind, port := some p, tag := some r.tag } s)

/-- A reply for an ACTIVE entry is relayed, or waits in hand for room in the origin's Reply Queue (R94). -/
def relayOrHold (p : Port) (r : Reply) (i : Fin 64) (e : TrackEntry) (s : State) : State :=
  if queueHasRoom s e.origin then relayReply p r i e s
  else setEntry i (some { e with state := .active true }) s

/-- The reply `r` at the head of the reply lane of `p` is judged by entry `i` and its port (R93). -/
def judgeReply (p : Port) (r : Reply) (i : Fin 64) (s : State) : State :=
  match s.track[i] with
  | none => discardReply p .strayReply r s
  | some e =>
    if e.dest = p then
      match e.state with
      | .active false => relayOrHold p r i e s
      | .active true => s
      | .orphaned => popReply p (setEntry i none s)
      | .replyDue _ => discardReply p .lateReply r s
      | .tombstone => discardReply p .lateReply r s
    else discardReply p .strayReply r s

/-- REPLY_MATCH: the head of the reply lane of `p` is taken (R93). A head already matched, whose reply is in hand, is not
taken again (R94). -/
def execReplyMatch (p : Port) (s : State) : Result :=
  whenRunning s fun s =>
    match (s.port p).repLane with
    | [] => s
    | r :: _ =>
      match entryIndex r.tag with
      | none => settle (discardReply p .strayReply r s)
      | some i => settle (judgeReply p r i s)

end Sys2Proof.Machine
end

