-- ==== Sys2Proof/Machine/NodeDirectives.lean ====
section
/-! DEFINITION. The directives on the Node Table, the node number and the manager port (chapter 7), and on the Fault List
and the alert path (chapter 9). -/

namespace Sys2Proof.Machine

open Sys2Proof

/-- The value that the second word of NODE_SET names (R124). -/
def nodeValue (w : Word) : Option NodeEntry :=
  if w = noneWord then some .unreachable else (portOfNat w.toNat).map NodeEntry.port

/-- A Node Table entry is written, with the route check when it changes (R123, R124, R178). -/
def writeNode (n : Node) (e : NodeEntry) (s : State) : State :=
  if s.nodeTable[n] = e then s else routeCheck { s with nodeTable := s.nodeTable.set n e }

/-- The arguments of NODE_SET: a node that is not the router's own, then a port or UNREACHABLE (R124). -/
def nodeSetChecks : ValueChecks
  | [w, v], s =>
    match nodeOfNat w.toNat, nodeValue v with
    | some n, some e => if n = s.node then none else some fun s => okDone (writeNode n e s)
    | _, _ => none
  | _, _ => none

/-- NODE_SET (R124). -/
def execNodeSet (s : State) : Result := executeCommand .nodeSet nodeSetChecks s

/-- NODE_READ (R125). -/
def execNodeRead (s : State) : Result :=
  executeCommand .nodeRead (noArgs fun s => reply .ok ([0, 1, 2, 3].map (nodeWord s)) s) s

/-- The argument of SET_NODE: a node number (R126). -/
def setNodeChecks : ValueChecks
  | [w], _ => (nodeOfNat w.toNat).map fun n => okDeferred (.setNode n)
  | _, _ => none

/-- SET_NODE: deferred (R126). -/
def execSetNode (s : State) : Result := executeCommand .setNode setNodeChecks s

/-- The argument of SET_MANAGER: a port that is not HALTED (R143). -/
def setManagerChecks : ValueChecks
  | [w], s =>
    match portOfNat w.toNat with
    | none => none
    | some p => if (s.port p).link = .halted then none else some fun s => okDone { s with manager := some p }
  | _, _ => none

/-- SET_MANAGER (R143). -/
def execSetManager (s : State) : Result := executeCommand .setManager setManagerChecks s

/-- The argument of FAULT_READ: a count 1 to 4 (R172). -/
def faultReadChecks : ValueChecks
  | [w], _ =>
    if 1 ≤ w.toNat ∧ w.toNat ≤ 4 then
      some fun s => reply .ok ((s.faultList.records.take w.toNat).flatMap faultWords) s
    else none
  | _, _ => none

/-- FAULT_READ (R172). -/
def execFaultRead (s : State) : Result := executeCommand .faultRead faultReadChecks s

/-- The oldest `n` records are removed; FLT# is released when none is left (R170, R173). -/
def popFaults (n : Nat) (s : State) : State :=
  { s with
    faultList := { s.faultList with records := s.faultList.records.drop n }
    fltLow := s.fltLow && !(s.faultList.records.drop n).isEmpty }

/-- The sequence guard: the oldest record has the sequence named (R173). -/
def guardPasses (w : Word) (s : State) : Bool :=
  match s.faultList.records with
  | [] => false
  | f :: _ => f.seq.setWidth 32 == w

/-- The arguments of FAULT_POP: a count 1 to 32, a first sequence 0 to 65535, and the guard (R173). -/
def faultPopChecks : ValueChecks
  | [c, q], s =>
    if 1 ≤ c.toNat ∧ c.toNat ≤ 32 ∧ q.toNat ≤ 65535 then
      if guardPasses q s then some fun s => okDone (popFaults c.toNat s) else none
    else none
  | _, _ => none

/-- FAULT_POP (R173). -/
def execFaultPop (s : State) : Result := executeCommand .faultPop faultPopChecks s

/-- The policy of the Fault List (R175). -/
def putPolicy (p : Policy) (s : State) : State := { s with faultList := { s.faultList with policy := p } }

/-- The argument of FAULT_POLICY: 0 or 1 (R175). -/
def faultPolicyChecks : ValueChecks
  | [w], _ =>
    if w = 0#32 then some fun s => okDone (putPolicy .keepOldest s)
    else if w = 1#32 then some fun s => okDone (putPolicy .keepNewest s)
    else none
  | _, _ => none

/-- FAULT_POLICY (R175). -/
def execFaultPolicy (s : State) : Result := executeCommand .faultPolicy faultPolicyChecks s

/-- The alert node is set: none discards a pending alert, a new node has its route checked (R180). None discards a pending
alert where the alert node is none already too: DESIGN CHOICE, log entry 20. -/
def putAlertNode (v : Option Node) (s : State) : State :=
  let s1 : State := { s with settings := { s.settings with alertNode := v } }
  match v with
  | none => { s1 with alert := { s1.alert with pending := false } }
  | some _ => if v = s.settings.alertNode then s1 else routeCheck s1

/-- The argument of ALERT_SET: none, or a node that is not the router's own (R180). -/
def alertSetChecks : ValueChecks
  | [w], s =>
    if w = noneWord then some fun s => okDone (putAlertNode none s)
    else
      match nodeOfNat w.toNat with
      | none => none
      | some n => if n = s.node then none else some fun s => okDone (putAlertNode (some n) s)
  | _, _ => none

/-- ALERT_SET (R180). -/
def execAlertSet (s : State) : Result := executeCommand .alertSet alertSetChecks s

/-- The armed flag is set, and an alert is raised at once if records are held and the alert node is set (R181, R177). -/
def armAlert (s : State) : State :=
  let s1 : State := { s with alert := { s.alert with armed := true } }
  if s.faultList.records.isEmpty then s1 else raiseAlert s1

/-- ALERT_ARM (R181). -/
def execAlertArm (s : State) : Result := executeCommand .alertArm (noArgs fun s => okDone (armAlert s)) s

end Sys2Proof.Machine
end

