-- ==== Sys2Proof/Machine/PortDirectives.lean ====
section
/-! DEFINITION. The directives on ports, timers and the whole router (chapter 8), and the execution of an unknown
command. -/

namespace Sys2Proof.Machine

open Sys2Proof

/-- IDENTIFY (R146, R41). -/
def execIdentify (s : State) : Result :=
  executeCommand .identify (noArgs fun s => reply .ok (identifyWords s) s) s

/-- PORT_STATUS (R147, R37). -/
def execPortStatus (s : State) : Result :=
  executeCommand .portStatus (portArg fun p s => reply .ok (statusWords p s) s) s

/-- PORT_ENABLE: an enable request reaches the named port at once (R148, R9). -/
def execPortEnable (s : State) : Result :=
  executeCommand .portEnable (portArg fun p s => okDone (enablePort p s)) s

/-- PORT_DISABLE: deferred (R149). -/
def execPortDisable (s : State) : Result :=
  executeCommand .portDisable (portArg fun p => okDeferred (.disable p)) s

/-- PORT_RESTART: deferred (R150). -/
def execPortRestart (s : State) : Result :=
  executeCommand .portRestart (portArg fun p => okDeferred (.restart p)) s

/-- FENCE: the fenced flag of the named port is set (R152). -/
def execFence (s : State) : Result :=
  executeCommand .fence (portArg fun p s => okDone (setFence p s)) s

/-- The fenced flag of `p` is cleared, and nothing that the fence took is restored (R153). -/
def clearFence (p : Port) (s : State) : State :=
  s.modifyPort p fun r => { r with fenced := false }

/-- UNFENCE (R153). -/
def execUnfence (s : State) : Result :=
  executeCommand .unfence (portArg fun p s => okDone (clearFence p s)) s

/-- The quota of origin `p` (R154). -/
def putQuota (p : Port) (n : Nat) (s : State) : State :=
  { s with settings := { s.settings with quota := s.settings.quota.set p n } }

/-- The arguments of SET_QUOTA: a port, then 1 to 64 (R154). -/
def quotaChecks : ValueChecks
  | [w, q], _ =>
    match portOfNat w.toNat with
    | none => none
    | some p => if 1 ≤ q.toNat ∧ q.toNat ≤ 64 then some fun s => okDone (putQuota p q.toNat s) else none
  | _, _ => none

/-- SET_QUOTA (R154). -/
def execSetQuota (s : State) : Result := executeCommand .setQuota quotaChecks s

/-- The reply deadline of destination `p` (R155). -/
def putDeadline (p : Port) (n : Nat) (s : State) : State :=
  { s with settings := { s.settings with deadline := s.settings.deadline.set p n } }

/-- The arguments of SET_DEADLINE: a port, then a time (R155). -/
def deadlineChecks : ValueChecks
  | [w, t], _ =>
    match portOfNat w.toNat, timeOf t with
    | some p, some n => some fun s => okDone (putDeadline p n s)
    | _, _ => none
  | _, _ => none

/-- SET_DEADLINE (R155). -/
def execSetDeadline (s : State) : Result := executeCommand .setDeadline deadlineChecks s

/-- A command with one argument word, a time. -/
def timeArg (effect : Nat → State → DirResult) : ValueChecks
  | [w], _ => (timeOf w).map effect
  | _, _ => none

/-- The tombstone interval (R156). -/
def putTombstone (n : Nat) (s : State) : State := { s with settings := { s.settings with tombstone := n } }

/-- SET_TOMBSTONE (R156). -/
def execSetTombstone (s : State) : Result :=
  executeCommand .setTombstone (timeArg fun n s => okDone (putTombstone n s)) s

/-- The lock hold limit (R156). -/
def putHoldLimit (n : Nat) (s : State) : State := { s with settings := { s.settings with holdLimit := n } }

/-- SET_LOCK_LIMIT (R156). -/
def execSetLockLimit (s : State) : Result :=
  executeCommand .setLockLimit (timeArg fun n s => okDone (putHoldLimit n s)) s

/-- RESET_ROUTER: deferred (R157). -/
def execResetRouter (s : State) : Result :=
  executeCommand .resetRouter (noArgs (okDeferred .resetRouter)) s

/-- UNKNOWN_COMMAND: the Management Unit executes a directive whose code is not in the table of R34; it is answered
BAD_COMMAND and nothing else changes (R132). -/
def execUnknownCommand (s : State) : Result :=
  whenRunning s fun s =>
    match s.mgmt with
    | .executing d =>
      if (commandOfCode d.command).isNone then settle (deliver d (reply .badCommand [] s)) else s
    | _ => s

end Sys2Proof.Machine
end

