-- ==== Sys2Proof/Machine/TableDirectives.lean ====
section
/-! DEFINITION. The directives on the Window Table (3.6, 3.7), the Tracking Table (5.11) and the Lock Table (6.6,
6.8). -/

namespace Sys2Proof.Machine

open Sys2Proof

/-- The window index that a word names, if it is 0 to 47 (R55). -/
def windowIndex (w : Word) : Option (Fin 48) := if h : w.toNat < 48 then some ⟨w.toNat, h⟩ else none

/-- An entry is written to the Staging bank (R55). -/
def writeStaging (i : Fin 48) (e : WindowEntry) (s : State) : State :=
  { s with windows := { s.windows with staging := s.windows.staging.set i e } }

/-- The arguments of TABLE_WRITE: an index, then an encodable entry (R55). -/
def tableWriteChecks : ValueChecks
  | [i, w1, w2, w3, w4], _ =>
    match windowIndex i with
    | none => none
    | some k => if encodable w1 then some fun s => okDone (writeStaging k (entryOfWords w1 w2 w3 w4) s) else none
  | _, _ => none

/-- TABLE_WRITE (R55). -/
def execTableWrite (s : State) : Result := executeCommand .tableWrite tableWriteChecks s

/-- The entry of a bank, Active for `false` and Staging for `true` (R56). -/
def bankEntry (staging : Bool) (i : Fin 48) (s : State) : WindowEntry :=
  if staging then s.windows.staging[i] else s.windows.active[i]

/-- The arguments of TABLE_READ: bank 0 or 1, then an index (R56). -/
def tableReadChecks : ValueChecks
  | [b, i], _ =>
    match windowIndex i with
    | none => none
    | some k =>
      if b = 0#32 then some fun s => reply .ok (entryWords (bankEntry false k s)) s
      else if b = 1#32 then some fun s => reply .ok (entryWords (bankEntry true k s)) s
      else none
  | _, _ => none

/-- TABLE_READ (R56). -/
def execTableRead (s : State) : Result := executeCommand .tableRead tableReadChecks s

/-- Every Staging entry becomes 0 (R57). -/
def clearStaging (s : State) : State :=
  { s with windows := { s.windows with staging := Vector.replicate 48 .zero } }

/-- TABLE_CLEAR (R57). -/
def execTableClear (s : State) : Result := executeCommand .tableClear (noArgs fun s => okDone (clearStaging s)) s

/-- The Active bank is copied into the Staging bank (R58). -/
def discardStaging (s : State) : State :=
  { s with windows := { s.windows with staging := s.windows.active } }

/-- DISCARD (R58). -/
def execDiscard (s : State) : Result := executeCommand .discard (noArgs fun s => okDone (discardStaging s)) s

/-- COMMIT as the Window Table takes it: validation, then the lock check, then the copy and increment (R59 to R62). -/
def commitTable (s : State) : DirResult :=
  match firstFailing s.windows.staging with
  | some i => reply .invalidEntry [bits 32 i.val] s
  | none =>
    match firstConflict s.windows s.locks with
    | some i => reply .lockConflict [bits 32 i.val] s
    | none => reply .ok [(committed s.windows).generation.setWidth 32] { s with windows := committed s.windows }

/-- COMMIT (R59). -/
def execCommit (s : State) : Result := executeCommand .commit (noArgs commitTable) s

/-- The argument of TRACK_READ: an index 0 to 63 (R104). -/
def trackReadChecks : ValueChecks
  | [w], _ =>
    if h : w.toNat < 64 then some fun s => reply .ok (trackWords s.track[w.toNat]) s else none
  | _, _ => none

/-- TRACK_READ (R104). -/
def execTrackRead (s : State) : Result := executeCommand .trackRead trackReadChecks s

/-- LOCK_READ (R121). -/
def execLockRead (s : State) : Result :=
  executeCommand .lockRead (noArgs fun s => reply .ok (lockIndices.map fun r => lockWord s.locks[r]) s) s

/-- The argument of BREAK_LOCK: a record 0 to 3 (R118). -/
def breakLockChecks : ValueChecks
  | [w], _ => if h : w.toNat < 4 then some fun s => okDone (breakRecord .directive ⟨w.toNat, h⟩ s) else none
  | _, _ => none

/-- BREAK_LOCK (R118). -/
def execBreakLock (s : State) : Result := executeCommand .breakLock breakLockChecks s

end Sys2Proof.Machine
end

