-- ==== Sys2Proof/Machine/TimerEvents.lean ====
section
/-! DEFINITION. The pins and the Time Base (chapter 10) and the expiries of the timers (R3, R7, R96, R97, R99, R114). A
tick counts every running timer down; a timer that stands at 0 has expired, and its expiry is the event that follows
(log entry 4). -/

namespace Sys2Proof.Machine

open Sys2Proof

/-! ### RST# -/

/-- A port while RST# is low: nothing in its lanes, its Reply Queue or its transmitter, and no timer (R182, R186). R182 does not
list the credits: that the transmit credits and the owed credits are 0 from the falling edge on, and not only from the rising
edge (R183), is a DESIGN CHOICE, log entry 13. -/
def resetPort (r : PortRec) : PortRec :=
  { r with
    reqLane := [], repLane := [], replyQueue := [], head := .empty, recheck := false, tx := none, helloDue := 0,
    helloTimer := none, attemptTimer := none, credits := ⟨0, 0⟩, owed := ⟨0, 0⟩ }

/-- The falling edge of RST#: all traffic is discarded, the Time Base is 0 and FLT# released (R182, R170, R185). That the Fault
List is emptied here, and what is kept until the rising edge, is a DESIGN CHOICE, log entry 13. -/
def assertReset (s : State) : State :=
  { s with
    resetLow := true, fltLow := false, time := 0#32, ports := s.ports.map resetPort,
    track := Vector.replicate 64 none, locks := Vector.replicate 4 none, mgmt := .idle, actions := [],
    faultList := { s.faultList with records := [] }, alert := { s.alert with queued := none } }

/-- COLD_RESET_ASSERT (R182). With RST# already low there is no falling edge. -/
def execColdResetAssert (s : State) : Result := whenRunning s assertReset

/-- The manager port that the straps give: 6 and 7 leave it unset (R184). -/
def strapManager (m : BitVec 3) : Option Port := portOfNat m.toNat

/-- COLD_RESET_RELEASE: the straps are latched and every block takes its cold value (R183, R184). With RST# already high
there is no rising edge. The model's own command queue and count of free choices go on. -/
def execColdResetRelease (n : BitVec 5) (m : BitVec 3) (s : State) : Result :=
  if s.resetLow then
    .next { State.cold (Fin.ofNat 32 n.toNat) (strapManager m) with pending := s.pending, freeUsed := s.freeUsed }
  else .next s

/-! ### The Time Base (R185, R186) -/

/-- The port timers of one port at a tick (R186). -/
def tickPort (r : PortRec) : PortRec :=
  { r with helloTimer := r.helloTimer.map (· - 1), attemptTimer := r.attemptTimer.map (· - 1) }

/-- The time of an entry runs in ORPHANED, in TOMBSTONE, and in ACTIVE with no reply in hand (R92). -/
def TrackState.timed : TrackState → Bool
  | .active inHand => !inHand
  | .orphaned => true
  | .replyDue _ => false
  | .tombstone => true

/-- A tracking entry at a tick (R92). -/
def tickEntry (e : TrackEntry) : TrackEntry :=
  if e.state.timed then { e with time := e.time - 1 } else e

/-- A lock record at a tick (R114). -/
def tickLock (l : Lock) : Lock := { l with hold := l.hold - 1 }

/-- One tick: the count advances, wrapping, and every running timer is decreased by 1 (R185, R186). The expiries of this tick
come after it, so their faults take the count after the tick: DESIGN CHOICE, log entry 22. -/
def tick (s : State) : State :=
  { s with
    time := s.time + 1#32, ports := s.ports.map tickPort, track := s.track.map (·.map tickEntry),
    locks := s.locks.map (·.map tickLock) }

/-- TIME_BASE_TICK (R185). While RST# is low the count holds 0 (R182). -/
def execTimeBaseTick (s : State) : Result := whenRunning s tick

/-! ### Port timers -/

/-- HELLO_TIMER_EXPIRY: a HELLO is sent and the timer restarts (R3). -/
def execHelloTimerExpiry (p : Port) (s : State) : Result :=
  whenRunning s fun s =>
    if (s.port p).link = .training ∧ (s.port p).helloTimer = some 0 then
      settle (sendHello p (s.modifyPort p fun r => { r with helloTimer := some Config.helloPeriod }))
    else s

/-- The port that enters HALTED gives up the manager port (R144). -/
def loseManager (p : Port) (s : State) : State :=
  if s.manager = some p then raiseFault { kind := .managerLost, port := some p } { s with manager := none } else s

/-- The fourth counted attempt: the port enters HALTED, LINK_HALTED is recorded, then MANAGER_LOST if it was the manager
port (R7, R144). -/
def haltPort (p : Port) (s : State) : State :=
  loseManager p (raiseFault { kind := .linkHalted, port := some p } (enterHalted p s))

/-- An attempt in which the peer was heard is counted (R7). -/
def countAttempt (p : Port) (s : State) : State :=
  s.modifyPort p fun r => { r with attempts := r.attempts + 1 }

/-- The attempt of `p` ends without UP (R7). -/
def endAttempt (p : Port) (s : State) : State :=
  if (s.port p).heard then
    let s1 := countAttempt p s
    if (s1.port p).attempts < Config.maxAttempts then beginAttempt p s1 else haltPort p s1
  else beginAttempt p s

/-- ATTEMPT_TIMER_EXPIRY (R7). -/
def execAttemptTimerExpiry (p : Port) (s : State) : Result :=
  whenRunning s fun s =>
    if (s.port p).link = .training ∧ (s.port p).attemptTimer = some 0 then settle (endAttempt p s) else s

/-! ### Tracking Table timers -/

/-- The REPLY_TIMEOUT fault of entry `i`: the destination as port, the router tag, the origin as index (R96). -/
def timeoutReport (i : Fin 64) (e : TrackEntry) : FaultReport :=
  { kind := .replyTimeout, port := some e.dest, tag := some (BitVec.ofNat 8 i.val),
    index := some (BitVec.ofNat 6 e.origin.val) }

/-- DEADLINE_EXPIRY of an ACTIVE entry with no reply in hand: REPLY_TIMEOUT, and a TIMEOUT reply placed or owed (R96). -/
def execDeadlineExpiry (i : Fin 64) (s : State) : Result :=
  whenRunning s fun s =>
    match s.track[i] with
    | some e =>
      if e.state = .active false ∧ e.time = 0 then settle (placeSynth i e .timeout (raiseFault (timeoutReport i e) s))
      else s
    | none => s

/-- ORPHAN_DEADLINE_EXPIRY: an ORPHANED entry becomes TOMBSTONE (R97). -/
def execOrphanDeadlineExpiry (i : Fin 64) (s : State) : Result :=
  whenRunning s fun s =>
    match s.track[i] with
    | some e => if e.state = .orphaned ∧ e.time = 0 then settle (toTombstone i e s) else s
    | none => s

/-- TOMBSTONE_EXPIRY: a TOMBSTONE entry becomes FREE (R99). -/
def execTombstoneExpiry (i : Fin 64) (s : State) : Result :=
  whenRunning s fun s =>
    match s.track[i] with
    | some e => if e.state = .tombstone ∧ e.time = 0 then settle (setEntry i none s) else s
    | none => s

/-! ### Lock Table timer -/

/-- LOCK_HOLD_EXPIRY: the lock is broken with detail EXPIRED (R114, R115). -/
def execLockHoldExpiry (r : Fin 4) (s : State) : Result :=
  whenRunning s fun s =>
    match s.locks[r] with
    | some l => if l.hold = 0 then settle (breakRecord .expired r s) else s
    | none => s

end Sys2Proof.Machine
end

