-- ==== Sys2Proof/Machine/Dispatch.lean ====
section
/-! DEFINITION. Which meaning each command has: one arm for each row of spec/opcode_table.json. -/

namespace Sys2Proof.Machine

open Sys2Proof

def exec (i : Instr) (s : State) : Host.Outcome State Fault Refusal :=
  match i with
  | .coldResetAssert => Sys2Proof.Machine.execColdResetAssert s
  | .coldResetRelease n m => Sys2Proof.Machine.execColdResetRelease n m s
  | .timeBaseTick => Sys2Proof.Machine.execTimeBaseTick s
  | .helloTimerExpiry p => Sys2Proof.Machine.execHelloTimerExpiry p s
  | .attemptTimerExpiry p => Sys2Proof.Machine.execAttemptTimerExpiry p s
  | .helloAccept p bytes => Sys2Proof.Machine.execHelloAccept p bytes s
  | .helloReceiveUp p bytes => Sys2Proof.Machine.execHelloReceiveUp p bytes s
  | .damagedParcel p bytes => Sys2Proof.Machine.execDamagedParcel p bytes s
  | .parcelDiscardInactive p bytes => Sys2Proof.Machine.execParcelDiscardInactive p bytes s
  | .requestParcelReceive p bytes => Sys2Proof.Machine.execRequestParcelReceive p bytes s
  | .replyParcelReceive p bytes => Sys2Proof.Machine.execReplyParcelReceive p bytes s
  | .creditReceive p bytes => Sys2Proof.Machine.execCreditReceive p bytes s
  | .unknownKindReceive p bytes => Sys2Proof.Machine.execUnknownKindReceive p bytes s
  | .parcelLeft p => Sys2Proof.Machine.execParcelLeft p s
  | .replyMatch p => Sys2Proof.Machine.execReplyMatch p s
  | .deadlineExpiry k => Sys2Proof.Machine.execDeadlineExpiry k s
  | .orphanDeadlineExpiry k => Sys2Proof.Machine.execOrphanDeadlineExpiry k s
  | .tombstoneExpiry k => Sys2Proof.Machine.execTombstoneExpiry k s
  | .lockHoldExpiry r => Sys2Proof.Machine.execLockHoldExpiry r s
  | .identify => Sys2Proof.Machine.execIdentify s
  | .portStatus => Sys2Proof.Machine.execPortStatus s
  | .portEnable => Sys2Proof.Machine.execPortEnable s
  | .portDisable => Sys2Proof.Machine.execPortDisable s
  | .portRestart => Sys2Proof.Machine.execPortRestart s
  | .fence => Sys2Proof.Machine.execFence s
  | .unfence => Sys2Proof.Machine.execUnfence s
  | .setQuota => Sys2Proof.Machine.execSetQuota s
  | .setDeadline => Sys2Proof.Machine.execSetDeadline s
  | .setTombstone => Sys2Proof.Machine.execSetTombstone s
  | .setLockLimit => Sys2Proof.Machine.execSetLockLimit s
  | .resetRouter => Sys2Proof.Machine.execResetRouter s
  | .tableWrite => Sys2Proof.Machine.execTableWrite s
  | .tableRead => Sys2Proof.Machine.execTableRead s
  | .tableClear => Sys2Proof.Machine.execTableClear s
  | .commit => Sys2Proof.Machine.execCommit s
  | .discard => Sys2Proof.Machine.execDiscard s
  | .trackRead => Sys2Proof.Machine.execTrackRead s
  | .lockRead => Sys2Proof.Machine.execLockRead s
  | .breakLock => Sys2Proof.Machine.execBreakLock s
  | .nodeSet => Sys2Proof.Machine.execNodeSet s
  | .nodeRead => Sys2Proof.Machine.execNodeRead s
  | .setNode => Sys2Proof.Machine.execSetNode s
  | .setManager => Sys2Proof.Machine.execSetManager s
  | .faultRead => Sys2Proof.Machine.execFaultRead s
  | .faultPop => Sys2Proof.Machine.execFaultPop s
  | .faultPolicy => Sys2Proof.Machine.execFaultPolicy s
  | .alertSet => Sys2Proof.Machine.execAlertSet s
  | .alertArm => Sys2Proof.Machine.execAlertArm s
  | .unknownCommand => Sys2Proof.Machine.execUnknownCommand s
  | .trainingParcelDiscard p bytes => Sys2Proof.Machine.execTrainingParcelDiscard p bytes s

end Sys2Proof.Machine
end

