-- ==== Sys2Proof/Safety.lean ====
section
/-! DEFINITION. The laws of the device that the manual states, in the terms the statements use, and what a read of the
router's outputs is. -/

namespace Sys2Proof.Machine

open Sys2Proof

/-- Every valid entry of the Active bank satisfies the validation of COMMIT (R44). -/
def WindowLaw (s : State) : Prop :=
  ∀ i : Fin 48, s.windows.active[i].valid = true → entryPasses s.windows.active[i] = true

/-- The Node Table entry of the own node number is SELF, and no other entry is SELF (R123). -/
def NodeLaw (s : State) : Prop :=
  ∀ n : Node, s.nodeTable[n] = .self ↔ n = s.node

/-- The manager port is unset or a port whose link is not HALTED (R140). -/
def ManagerLaw (s : State) : Prop :=
  ∀ p : Port, s.manager = some p → (s.port p).link ≠ .halted

/-- The Fault List holds at most 32 records (R169), and FLT# is driven low exactly while it holds one (R170). -/
def FaultListLaw (s : State) : Prop :=
  s.faultList.records.length ≤ 32 ∧ s.fltLow = !s.faultList.records.isEmpty

/-- The lanes and the Reply Queue of a port are within their capacities, and so are its owed credits (R17, R18, R83). -/
def PortRec.withinCapacity (r : PortRec) : Prop :=
  r.reqLane.length ≤ 12 ∧ r.repLane.length ≤ 8 ∧ r.replyQueue.length ≤ 8 ∧ r.owed.req ≤ 12 ∧ r.owed.rep ≤ 8

/-- No lane, Reply Queue or owed credit exceeds its capacity (R17, R18, R83). -/
def CapacityLaw (s : State) : Prop := ∀ p : Port, (s.port p).withinCapacity

/-- A port record outside UP holds no request, reply, head, credit or owed credit (R8, R21, 1.2); an UP port has peer
offers, they are in range and bound the transmit credits (R5, R6, R16); the head's state is EMPTY exactly when the request
lane is (R65). -/
def PortRec.linkGood (r : PortRec) : Prop :=
  (r.link ≠ .up → r.reqLane = [] ∧ r.repLane = [] ∧ r.replyQueue = [] ∧ r.credits = ⟨0, 0⟩ ∧ r.owed = ⟨0, 0⟩) ∧
  (r.link = .up → r.offers ≠ none) ∧
  (∀ o, r.offers = some o → 1 ≤ o.req ∧ o.req ≤ 12 ∧ 1 ≤ o.rep ∧ o.rep ≤ 8) ∧
  r.credits.req ≤ (r.offers.getD ⟨0, 0⟩).req ∧ r.credits.rep ≤ (r.offers.getD ⟨0, 0⟩).rep ∧
  (r.head = .empty ↔ r.reqLane = [])

/-- In OFF and HALTED the transmitter of a port sends nothing and no HELLO waits for it, and the port timers run in TRAINING
alone, where both run while RST# is high (R3, R6, R8, R182, R186). -/
def SilenceLaw (s : State) : Prop :=
  ∀ p : Port,
    ((s.port p).link = .off ∨ (s.port p).link = .halted → (s.port p).tx = none ∧ (s.port p).helloDue = 0) ∧
    ((s.port p).link ≠ .training → (s.port p).helloTimer = none ∧ (s.port p).attemptTimer = none) ∧
    ((s.port p).link = .training → s.resetLow = false →
      (s.port p).helloTimer ≠ none ∧ (s.port p).attemptTimer ≠ none)

/-- Every port record is in order for its link state (R8, R16, R21, R65). -/
def LinkLaw (s : State) : Prop := ∀ p : Port, (s.port p).linkGood

/-- No window is held by two locks, and the holder of every held lock is UP and not fenced (R105). -/
def LockLaw (s : State) : Prop :=
  (∀ r q : Fin 4, ∀ l k : Lock, s.locks[r] = some l → s.locks[q] = some k → l.window = k.window → r = q) ∧
  (∀ r : Fin 4, ∀ l : Lock, s.locks[r] = some l →
    (s.port l.holder).link = .up ∧ (s.port l.holder).fenced = false)

/-- No two entries in ACTIVE or REPLY_DUE hold the same origin port and origin tag (R89). -/
def TagLaw (s : State) : Prop :=
  ∀ i j : Fin 64, ∀ e f : TrackEntry, s.track[i] = some e → s.track[j] = some f →
    e.state.blocksTag = true → f.state.blocksTag = true → e.origin = f.origin → e.tag = f.tag → i = j

/-- The origin of every entry in ACTIVE or REPLY_DUE is UP (R103). -/
def OriginLaw (s : State) : Prop :=
  ∀ i : Fin 64, ∀ e : TrackEntry, s.track[i] = some e → e.state.blocksTag = true → s.isUp e.origin = true

/-- No action that belongs to an event is left undone (R65, R77, R82, R133). -/
def Quiet (s : State) : Prop := internalActions s = []

/-! ### The check of a parcel, bit by bit -/

/-- One bit enters the check: the register shifts left by one place, and the generator 0x04C11DB7 is added when the bit that
leaves it differs from the bit that enters (R26). -/
def checkBit (c : Word) (bit : Bool) : Word := if c.msb == bit then c <<< 1 else (c <<< 1) ^^^ 0x04C11DB7#32

/-- The bits of a byte in the order they enter the check, the most significant first (R26). -/
def bitsOfByte (b : Byte) : List Bool :=
  [b.getLsbD 7, b.getLsbD 6, b.getLsbD 5, b.getLsbD 4, b.getLsbD 3, b.getLsbD 2, b.getLsbD 1, b.getLsbD 0]

/-- The check of a header and payload by the words of R26, one bit at a time: from 0xFFFFFFFF, inverted at the end. -/
def checkOf (bytes : List Byte) : Word := ~~~ ((bytes.flatMap bitsOfByte).foldl checkBit 0xFFFFFFFF#32)

/-- The bytes on the line of port `p`, if its transmitter is sending: header, payload and check (R25, R26). -/
def lineBytes (s : State) (p : Port) : Option (List Byte) :=
  (s.port p).tx.map fun t => wireBytes t.parcel

/-! ### Rest -/

/-- `t` is reached from `s` by internal actions, each one that may be taken where it is taken, and at `t` none may be
taken. The count of free choices is the model's own and may stand anywhere (log entry 1). -/
inductive ComesToRest : State → State → Prop where
  | quiet (s : State) : internalActions s = [] → ComesToRest s s
  | act (s t : State) (a : Internal) (k : Nat) :
      a ∈ internalActions s → ComesToRest (doInternal a { s with freeUsed := k }) t → ComesToRest s t

/-- The part of a port record that no internal action changes: the link state, the training state, the peer, the fence
and the timers. -/
def PortRec.SameSetup (r q : PortRec) : Prop :=
  q.link = r.link ∧ q.attempts = r.attempts ∧ q.heard = r.heard ∧ q.seen = r.seen ∧ q.peerNode = r.peerNode ∧
  q.offers = r.offers ∧ q.fenced = r.fenced ∧ q.helloTimer = r.helloTimer ∧ q.attemptTimer = r.attemptTimer

/-- What no internal action changes: the state of reset and time, the node number and its table, the windows, the pending
actions, the manager port, the configuration, the Fault List's policy, the model's queue, and the setup of each port. -/
def SameSetup (s t : State) : Prop :=
  t.pending = s.pending ∧ t.resetLow = s.resetLow ∧ t.time = s.time ∧ t.node = s.node ∧ t.nodeTable = s.nodeTable ∧
  t.windows = s.windows ∧ t.actions = s.actions ∧ t.manager = s.manager ∧ t.settings = s.settings ∧
  t.faultList.policy = s.faultList.policy ∧ ∀ p : Port, (s.port p).SameSetup (t.port p)

/-! ### Directives -/

/-- The row of the table that executes a command. -/
def Command.row : Command → Instr
  | .identify => .identify
  | .portStatus => .portStatus
  | .portEnable => .portEnable
  | .portDisable => .portDisable
  | .portRestart => .portRestart
  | .fence => .fence
  | .unfence => .unfence
  | .setQuota => .setQuota
  | .setDeadline => .setDeadline
  | .setTombstone => .setTombstone
  | .setLockLimit => .setLockLimit
  | .resetRouter => .resetRouter
  | .tableWrite => .tableWrite
  | .tableRead => .tableRead
  | .tableClear => .tableClear
  | .commit => .commit
  | .discard => .discard
  | .trackRead => .trackRead
  | .lockRead => .lockRead
  | .breakLock => .breakLock
  | .nodeSet => .nodeSet
  | .nodeRead => .nodeRead
  | .setNode => .setNode
  | .setManager => .setManager
  | .faultRead => .faultRead
  | .faultPop => .faultPop
  | .faultPolicy => .faultPolicy
  | .alertSet => .alertSet
  | .alertArm => .alertArm

/-- RST# is high and the Management Unit is executing `d`, whose code is that of `c` (R131). -/
def Executing (c : Command) (d : Directive) (s : State) : Prop :=
  s.resetLow = false ∧ s.mgmt = .executing d ∧ d.command = c.code

/-- A modifying command from the origin of `d` passes the authority check (step 2 of R132). -/
def Authorised (d : Directive) (s : State) : Prop :=
  s.manager = some d.origin ∨ (s.manager = none ∧ (s.port d.origin).link ≠ .halted)

/-- The Management Unit is executing `d`, which passes steps 1 to 3 of R132 for command `c`. -/
def Accepted (c : Command) (d : Directive) (s : State) : Prop :=
  Executing c d s ∧ (c.readOnly = true ∨ Authorised d s) ∧ d.length.toNat = c.argCount

/-- The reply of `d` has been built: it waits to be placed at once when the origin is UP, and is discarded otherwise
(R133). -/
def withReply (d : Directive) (st : Status) (payload : List Word) (s : State) : State :=
  { s with mgmt := if s.isUp d.origin then .replyHeld d.origin ⟨⟨d.tag, st.code, payload⟩, false⟩ else .idle }

/-- The origin of `d` is the manager port, as step 5 of R132 leaves it for a modifying command (R141). -/
def claimedBy (d : Directive) (s : State) : State := { s with manager := some d.origin }

/-! ### Resets -/

/-- A port right after a cold reset: the Cold reset column of R1, with its first attempt begun and its first HELLO being
sent (R3, R4, R183), and its arbiter and queue pointers (R77, R84). -/
def ColdPort (n : Node) (r : PortRec) : Prop :=
  r.link = .training ∧ r.attempts = 0 ∧ r.heard = false ∧ r.seen = false ∧ r.peerNode = none ∧ r.offers = none ∧
  r.credits = ⟨0, 0⟩ ∧ r.owed = ⟨0, 0⟩ ∧ r.reqLane = [] ∧ r.repLane = [] ∧ r.fenced = false ∧ r.fencedDrops = 0 ∧
  r.helloTimer = some 10 ∧ r.attemptTimer = some 200 ∧ r.tx = some ⟨.hello n 12#8 8#8 false, false⟩ ∧
  r.head = .empty ∧ r.replyQueue = [] ∧ r.arbPointer.val = 6 ∧ r.queuePointer.val = 7

/-- The table of R183, for the node number and the manager port that the straps give. -/
def ColdValues (n : Node) (m : Option Port) (t : State) : Prop :=
  t.resetLow = false ∧ t.fltLow = false ∧ t.time = 0#32 ∧ t.node = n ∧ t.manager = m ∧
  (∀ k : Node, t.nodeTable[k] = if k = n then .self else .unreachable) ∧
  (∀ p : Port, ColdPort n (t.port p)) ∧ t.mPointer.val = 5 ∧
  (∀ i : Fin 48, entryWords t.windows.active[i] = [0#32, 0#32, 0#32, 0#32] ∧
    entryWords t.windows.staging[i] = [0#32, 0#32, 0#32, 0#32]) ∧
  t.windows.generation = 0#16 ∧ (∀ i : Fin 64, t.track[i] = none) ∧ (∀ r : Fin 4, t.locks[r] = none) ∧
  t.mgmt = .idle ∧ t.actions = [] ∧ (∀ p : Port, t.settings.quota[p] = 16 ∧ t.settings.deadline[p] = 4000) ∧
  t.settings.tombstone = 2000 ∧ t.settings.holdLimit = 1000 ∧ t.settings.alertNode = none ∧
  t.faultList.records = [] ∧ t.faultList.nextSeq = 0#16 ∧ t.faultList.policy = .keepOldest ∧
  t.alert.armed = false ∧ t.alert.pending = false ∧ t.alert.queued = none

/-- A port whose traffic state is empty: lanes, head, Reply Queue and both credits. -/
def NoTraffic (r : PortRec) : Prop :=
  r.reqLane = [] ∧ r.repLane = [] ∧ r.replyQueue = [] ∧ r.head = .empty ∧ r.credits = ⟨0, 0⟩ ∧ r.owed = ⟨0, 0⟩

/-! ### Answers -/

/-- The reply stands in the Reply Queue of `p`, or is being sent on `p`. -/
def AnsweredOn (p : Port) (r : Reply) (t : State) : Prop :=
  ⟨r, false⟩ ∈ (t.port p).replyQueue ∨ ∃ c, (t.port p).tx = some ⟨.reply c r, false⟩

/-! ### Parcels that cause link loss -/

/-- The command is a parcel that makes port `p`, which is UP, suffer link loss with the report as its own fault: a damaged
parcel, a HELLO with the seen flag clear, or a parcel for a lane that is full (R20). -/
def LosesLink (p : Port) (report : FaultReport) (c : Instr) (s : State) : Prop :=
  s.resetLow = false ∧ (s.port p).link = .up ∧
  ((∃ bytes, c = .damagedParcel p bytes ∧ parse bytes = .damaged ∧ report = { kind := .linkCheck, port := some p }) ∨
   (∃ bytes n a b, c = .helloReceiveUp p bytes ∧ parse bytes = .parcel (.hello n a b false) ∧
      report = { kind := .linkLost, port := some p, detail := some 1#8 }) ∨
   (∃ bytes k r, c = .requestParcelReceive p bytes ∧ parse bytes = .parcel (.request k r) ∧
      12 ≤ (s.port p).reqLane.length ∧ report = { kind := .overrun, port := some p, detail := some 1#8 }) ∨
   (∃ bytes k r, c = .replyParcelReceive p bytes ∧ parse bytes = .parcel (.reply k r) ∧
      8 ≤ (s.port p).repLane.length ∧ report = { kind := .overrun, port := some p, detail := some 2#8 }))

/-! ### What a link loss leaves -/

/-- The LOCK_BROKEN faults of every record that `x` holds, lowest record first, numbered from `seq` on (R115). -/
def BrokenLockFaults (x : Port) (detail : Byte) (seq : BitVec 16) (s : State) (faults : List FaultRecord) : Prop :=
  ∃ held : List (Fin 4), held.Pairwise (· < ·) ∧ (∀ r, r ∈ held ↔ ∃ l, s.locks[r] = some l ∧ l.holder = x) ∧
    faults = held.mapIdx fun k r =>
      ⟨seq + BitVec.ofNat 16 k, s.time,
        { kind := .lockBroken, port := some x, index := s.locks[r].map fun l => BitVec.ofNat 6 l.window.val,
          detail := some detail }⟩

/-- Every record that `x` holds in `s` is FREE in `t`, and the others are as they were (R115, R116). -/
def LocksFreed (x : Port) (s t : State) : Prop :=
  ∀ r : Fin 4, ((∃ l, s.locks[r] = some l ∧ l.holder = x) → t.locks[r] = none) ∧
    ((∀ l, s.locks[r] = some l → l.holder ≠ x) → t.locks[r] = s.locks[r])

/-- The entry in TOMBSTONE with the tombstone interval in force (R99). -/
def TrackEntry.entombed (e : TrackEntry) (s : State) : TrackEntry :=
  { e with state := .tombstone, time := s.settings.tombstone }

/-- The entries of a link loss on `x` whose end does not depend on the room in a queue (R100, R101, R102). -/
def EntriesAfterLoss (x : Port) (s t : State) : Prop :=
  (∀ i : Fin 64, s.track[i] = none → t.track[i] = none) ∧
  ∀ (i : Fin 64) (e : TrackEntry), s.track[i] = some e →
    (e.origin ≠ x → e.dest ≠ x → t.track[i] = some e) ∧
    (e.state = .tombstone → t.track[i] = some e) ∧
    (e.origin = x → e.dest ≠ x →
      (e.state = .active false → t.track[i] = some { e with state := .orphaned }) ∧
      (e.state = .active true → t.track[i] = none) ∧
      (∀ st, e.state = .replyDue st → t.track[i] = some (e.entombed s)) ∧
      (e.state = .orphaned → t.track[i] = some e)) ∧
    (e.origin ≠ x → e.dest = x →
      (e.state = .orphaned → t.track[i] = some (e.entombed s)) ∧
      (∀ st, e.state = .replyDue st → t.track[i] = some e)) ∧
    (e.origin = x → e.dest = x →
      (∀ b, e.state = .active b → t.track[i] = some (e.entombed s)) ∧
      (∀ st, e.state = .replyDue st → t.track[i] = some (e.entombed s)))

/-- The ACTIVE entries of origin `q`, which is UP, that lose their destination `x`: in index order, each is answered
LINK_LOST while the queue of `q` has room and becomes TOMBSTONE, and the rest become REPLY_DUE (R101). -/
def AnswersAfterLoss (x q : Port) (s t : State) : Prop :=
  ∃ (lost : List (Fin 64 × TrackEntry)) (room : Nat), room = 8 - (s.port q).replyQueue.length ∧
    lost.Pairwise (fun a b => a.1 < b.1) ∧
    (∀ i e, (i, e) ∈ lost ↔ s.track[i] = some e ∧ (∃ b, e.state = .active b) ∧ e.dest = x ∧ e.origin = q) ∧
    (t.port q).replyQueue =
      (s.port q).replyQueue ++ ((lost.take room).map fun a => ⟨⟨a.2.tag, 0x21#8, []⟩, false⟩) ∧
    (∀ a ∈ lost.take room, t.track[a.1] = some (a.2.entombed s)) ∧
    (∀ a ∈ lost.drop room, t.track[a.1] = some { a.2 with state := .replyDue .linkLost, time := 0 })

/-- An entry whose reply waits in hand at the head of the reply lane of `q` for the Reply Queue of `x` (R94). -/
def InHandFor (x q : Port) (i : Fin 64) (s : State) : Prop :=
  ∃ e, s.track[i] = some e ∧ e.state = .active true ∧ e.origin = x ∧ e.dest = q

/-- At a link loss on `x` the reply in hand at another port `q` for the queue of `x` is discarded: its lane slot is freed
and one reply credit becomes owed. Without one the lane and the owed credits stay (R85, R100). -/
def LaneAfterLoss (x q : Port) (s t : State) : Prop :=
  ((∀ i, ¬ InHandFor x q i s) → (t.port q).repLane = (s.port q).repLane ∧ (t.port q).owed = (s.port q).owed) ∧
  (∀ (i : Fin 64) (r : Reply) (rest : List Reply), InHandFor x q i s → (∀ j, InHandFor x q j s → j = i) →
    (s.port q).repLane = r :: rest →
    (t.port q).repLane = rest ∧ (t.port q).owed = ⟨(s.port q).owed.req, min ((s.port q).owed.rep + 1) 8⟩)

/-- The alert note queued at `x` is withdrawn and its alert is pending again, or is built anew at once for another port that
is UP. A note queued at another port stays (R179, R178). -/
def NoteAfterLoss (x : Port) (s t : State) : Prop :=
  ∀ q, s.alert.queued = some q →
    (q.out ≠ x → t.alert.queued = some q) ∧
    (q.out = x →
      (∀ (n : Node) (p : Port), s.settings.alertNode = some n → s.nodeTable[n] = .port p → p ≠ x →
        (s.port p).link = .up →
        t.alert.pending = false ∧
        t.alert.queued = some ⟨p, { kind := .note, tag := 0#8, length := 2#5, addr := 0#48,
                                    target := BitVec.ofNat 8 n.val, source := BitVec.ofNat 8 s.node.val, hop := 15#8,
                                    command := 0#8,
                                    payload := [(t.faultList.nextSeq - 1#16).setWidth 32,
                                                BitVec.ofNat 32 t.faultList.records.length] }, false⟩) ∧
      ((∀ (n : Node) (p : Port), s.settings.alertNode = some n → s.nodeTable[n] = .port p →
          p = x ∨ (s.port p).link ≠ .up) →
        t.alert.pending = true ∧ t.alert.queued = none))

/-- Port `x` is the holder of a lock (R115). -/
def HoldsLock (x : Port) (s : State) : Prop := ∃ (r : Fin 4) (l : Lock), s.locks[r] = some l ∧ l.holder = x

/-- The head of a port waits: it is OFFERED or in LOCK_WAIT, and so is examined again when a lock is freed (R66). -/
def HeadWaits (r : PortRec) : Prop := ∃ res, r.head = .offered res ∨ r.head = .lockWait res

/-- A head that is offered or waits at output `x` (R66). -/
def HeadedFor (x : Port) (r : PortRec) : Prop :=
  ∃ res, (r.head = .offered res ∨ r.head = .lockWait res) ∧
    ((∃ w a, res.route = .memory w x a) ∨ ∃ n, res.route = .forward x n)

end Sys2Proof.Machine
end

