-- ==== Sys2Proof/Certificates/Slice0/Obligations.lean ====
section
/-! DEFINITION. The statements about the IR-6 model, for the provers. Each docstring names the rules of spec/ that the
statement formalises, or says that it states the model's own choice. -/

open Sys2Proof Sys2Proof.Machine

/-! ### The queue, and what follows an event by itself -/

/-- The command at the front of the queue takes place on the state with the queue's rest; on an empty queue the router
idles (the model's choice, log entry 5). -/
def Obligations.StepRunsTheFrontCommand : Prop :=
  (∀ (s : State) (c : Instr) (rest : List Instr), s.pending = c :: rest → step s = exec c { s with pending := rest }) ∧
  (∀ s : State, s.pending = [] → step s = .next s)

/-- Every command of the table completes in every state, and leaves the queue to `step`: the manual gives every event an
effect, and an event that cannot occur in a state changes nothing (log entry 3). -/
def Obligations.EveryCommandCompletes : Prop :=
  ∀ (c : Instr) (s : State), ∃ t, exec c s = .next t ∧ t.pending = s.pending

/-- Every event ends: from any state the blocks act one after another, each action one that may be taken where it is taken,
until none may be taken, and the setup of the router is then as it was. That whichever may act goes first is log entry 1. -/
def Obligations.EveryEventComesToRest : Prop :=
  ∀ s : State, ComesToRest s (settle s) ∧ SameSetup s (settle s)

/-! ### Resets -/

/-- The rising edge of RST# gives every block the value of the table of R183, with the node number and the manager port of
the straps (R184); the state after reset is this table's for the strap levels that log entry 2 chooses. A rising edge with
RST# high already changes nothing: the model's choice, log entry 3. -/
def Obligations.RisingEdgeGivesColdValues : Prop :=
  (∀ (n : BitVec 5) (m : BitVec 3) (s : State), s.resetLow = true →
    ∃ t, exec (.coldResetRelease n m) s = .next t ∧ t.pending = s.pending ∧
      ∃ node manager, node.val = n.toNat ∧
        (m.toNat ≤ 5 → ∃ p, manager = some p ∧ p.val = m.toNat) ∧ (5 < m.toNat → manager = none) ∧
        ColdValues node manager t) ∧
  (∀ (n : BitVec 5) (m : BitVec 3) (s : State), s.resetLow = false → exec (.coldResetRelease n m) s = .next s) ∧
  ColdValues 0 none State.reset ∧ State.reset.pending = []

/-- The falling edge of RST# stops the router: nothing is being sent, all traffic is discarded, the Time Base is 0, FLT# is
released, and no fault is raised. Until the rising edge nothing else has an effect (R182). That the falling edge sets the
transmit credits and the owed credits to 0, empties the Fault List and keeps its next number is the model's choice, log entry
13, and so is that a falling edge with RST# low already changes nothing, log entry 3. -/
def Obligations.FallingEdgeStopsTheRouter : Prop :=
  (∀ s : State, s.resetLow = false →
    ∃ t, exec .coldResetAssert s = .next t ∧ t.resetLow = true ∧ t.fltLow = false ∧ t.time = 0#32 ∧
      (∀ p : Port, NoTraffic (t.port p) ∧ (t.port p).tx = none ∧ (t.port p).helloTimer = none ∧
        (t.port p).attemptTimer = none) ∧
      (∀ i : Fin 64, t.track[i] = none) ∧ (∀ r : Fin 4, t.locks[r] = none) ∧ t.mgmt = .idle ∧ t.actions = [] ∧
      t.alert.queued = none ∧ t.faultList.records = [] ∧ t.faultList.nextSeq = s.faultList.nextSeq ∧
      t.pending = s.pending) ∧
  (∀ (c : Instr) (s : State), s.resetLow = true → (∀ n m, c ≠ .coldResetRelease n m) → exec c s = .next s)

/-- The warm reset empties the traffic state of every port and block, begins training on every port that is not OFF, raises
one WARM_RESET fault, and keeps what R163 lists (R158 to R163, R171). A queued alert note returns to pending (R179). -/
def Obligations.WarmResetClearsTrafficAndKeepsTables : Prop :=
  ∀ s : State,
    (∀ p : Port, NoTraffic ((warmReset s).port p) ∧ ((warmReset s).port p).attempts = 0 ∧
      ((warmReset s).port p).heard = false ∧ ((warmReset s).port p).seen = false ∧
      ((warmReset s).port p).peerNode = none ∧ ((warmReset s).port p).offers = none ∧
      ((warmReset s).port p).fenced = false ∧ ((warmReset s).port p).fencedDrops = 0 ∧
      ((warmReset s).port p).arbPointer.val = 6 ∧ ((warmReset s).port p).queuePointer.val = 7 ∧
      ((s.port p).link = .off → ((warmReset s).port p).link = .off ∧ ((warmReset s).port p).tx = none) ∧
      ((s.port p).link ≠ .off → ((warmReset s).port p).link = .training ∧
        ((warmReset s).port p).helloTimer = some 10 ∧ ((warmReset s).port p).attemptTimer = some 200 ∧
        ((warmReset s).port p).tx = some ⟨.hello s.node 12#8 8#8 false, false⟩)) ∧
    (warmReset s).mPointer.val = 5 ∧ (∀ i : Fin 64, (warmReset s).track[i] = none) ∧
    (∀ r : Fin 4, (warmReset s).locks[r] = none) ∧ (warmReset s).mgmt = .idle ∧ (warmReset s).actions = [] ∧
    (warmReset s).windows = s.windows ∧ (warmReset s).node = s.node ∧ (warmReset s).nodeTable = s.nodeTable ∧
    (warmReset s).manager = s.manager ∧ (warmReset s).settings = s.settings ∧ (warmReset s).time = s.time ∧
    (warmReset s).pending = s.pending ∧ (warmReset s).faultList.policy = s.faultList.policy ∧
    (warmReset s).faultList.nextSeq = s.faultList.nextSeq + 1#16 ∧
    (s.faultList.records.length < 32 → (warmReset s).faultList.records =
      s.faultList.records ++ [⟨s.faultList.nextSeq, s.time, { kind := .warmReset }⟩]) ∧
    (32 ≤ s.faultList.records.length → s.faultList.policy = .keepOldest →
      (warmReset s).faultList.records = s.faultList.records) ∧
    (32 ≤ s.faultList.records.length → s.faultList.policy = .keepNewest → (warmReset s).faultList.records =
      s.faultList.records.tail ++ [⟨s.faultList.nextSeq, s.time, { kind := .warmReset }⟩]) ∧
    (warmReset s).alert.queued = none ∧ (s.alert.queued ≠ none → (warmReset s).alert.pending = true) ∧
    ∃ kept raised : Prop, (kept ↔ s.faultList.records.length < 32 ∨ s.faultList.policy = .keepNewest) ∧
      (raised ↔ kept ∧ s.alert.armed = true ∧ s.settings.alertNode ≠ none) ∧
      (kept → (warmReset s).fltLow = true) ∧ (¬ kept → (warmReset s).fltLow = s.fltLow) ∧
      (raised → (warmReset s).alert.armed = false ∧ (warmReset s).alert.pending = true) ∧
      (¬ raised → (warmReset s).alert.armed = s.alert.armed ∧
        (s.alert.queued = none → (warmReset s).alert.pending = s.alert.pending))

/-! ### The Time Base and the timers -/

/-- A tick advances the count, which wraps, and takes 1 from every timer that runs: both timers of a port, the time of an
entry that is ORPHANED, TOMBSTONE, or ACTIVE with no reply in hand, and the hold time of a held lock. Nothing else changes
(R185, R186, R92, R114). A timer whose expiry is still to come stays at 0 (log entry 4), and the count is advanced before the
faults of those expiries are stamped (log entry 22). -/
def Obligations.TickCountsRunningTimers : Prop :=
  ∀ s : State, s.resetLow = false →
    ∃ ports track locks,
      exec .timeBaseTick s =
        .next { s with time := s.time + 1#32, ports := ports, track := track, locks := locks } ∧
      (∀ p : Port, ports[p] = { s.port p with helloTimer := (s.port p).helloTimer.map (· - 1),
                                              attemptTimer := (s.port p).attemptTimer.map (· - 1) }) ∧
      (∀ (i : Fin 64) (e : TrackEntry), s.track[i] = some e →
        track[i] = some (if e.state = .active false ∨ e.state = .orphaned ∨ e.state = .tombstone then
          { e with time := e.time - 1 } else e)) ∧
      (∀ i : Fin 64, s.track[i] = none → track[i] = none) ∧
      (∀ r : Fin 4, locks[r] = s.locks[r].map fun l => { l with hold := l.hold - 1 })

/-- At the expiry of the HELLO timer in TRAINING a HELLO is sent, at once or after the parcel being sent, and the timer
restarts (R3, R4). At the expiry of the attempt timer an attempt in which the peer was not heard is not counted, one in which
it was heard is counted, and a new attempt begins unless the count reaches 4. Then the port enters HALTED with LINK_HALTED,
and a manager port that halts becomes unset with MANAGER_LOST (R7, R8, R144). Four points are the model's: HELLOs that wait
for a busy transmitter are counted (log entry 14), HALTED abandons what is being sent (log entry 6), the marks and the count
that no rule mentions stay (log entry 18), and the faults take the count after the tick (log entry 22). -/
def Obligations.TrainingTimersSendAndCount : Prop :=
  (∀ (p : Port) (s : State), s.resetLow = false → (s.port p).link = .training → (s.port p).helloTimer = some 0 →
    ((s.port p).tx = none →
      exec (.helloTimerExpiry p) s =
        .next (settle (s.modifyPort p fun r =>
          { r with helloTimer := some 10, tx := some ⟨.hello s.node 12#8 8#8 r.heard, false⟩ }))) ∧
    ((s.port p).tx ≠ none →
      exec (.helloTimerExpiry p) s =
        .next (settle (s.modifyPort p fun r => { r with helloTimer := some 10, helloDue := r.helloDue + 1 })))) ∧
  (∀ (p : Port) (s : State), s.resetLow = false → (s.port p).link = .training → (s.port p).attemptTimer = some 0 →
    ((s.port p).heard = false →
      exec (.attemptTimerExpiry p) s =
        .next (settle (s.modifyPort p fun r => { r with seen := false, attemptTimer := some 200 }))) ∧
    ((s.port p).heard = true → (s.port p).attempts < 3 →
      exec (.attemptTimerExpiry p) s =
        .next (settle (s.modifyPort p fun r =>
          { r with attempts := r.attempts + 1, heard := false, seen := false, attemptTimer := some 200 }))) ∧
    ((s.port p).heard = true → (s.port p).attempts = 3 →
      ∃ u, u = s.modifyPort p (fun r =>
          { r with link := .halted, attempts := 4, helloTimer := none, attemptTimer := none, tx := none,
                   helloDue := 0 }) ∧
        (s.manager ≠ some p →
          exec (.attemptTimerExpiry p) s = .next (settle (raiseFault { kind := .linkHalted, port := some p } u))) ∧
        (s.manager = some p →
          exec (.attemptTimerExpiry p) s =
            .next (settle (raiseFault { kind := .managerLost, port := some p }
              { raiseFault { kind := .linkHalted, port := some p } u with manager := none })))))

/-- The expiries of the Tracking Table and the Lock Table. A deadline of an ACTIVE entry records REPLY_TIMEOUT and places a
TIMEOUT reply, or makes the entry REPLY_DUE when the origin's queue is full (R96); an ORPHANED entry becomes TOMBSTONE
(R97); a TOMBSTONE becomes FREE (R99); a lock is broken with detail EXPIRED and its fault, and every waiting head is marked
for examination (R114, R115, R66). The faults take the count after the tick: the model's choice, log entry 22. -/
def Obligations.ExpiriesEndTheirOwners : Prop :=
  (∀ (i : Fin 64) (e : TrackEntry) (s : State), s.resetLow = false → s.track[i] = some e → e.state = .active false →
    e.time = 0 → s.isUp e.origin = true →
    ∃ u, u = raiseFault { kind := .replyTimeout, port := some e.dest, tag := some (BitVec.ofNat 8 i.val),
                          index := some (BitVec.ofNat 6 e.origin.val) } s ∧
      ((s.port e.origin).replyQueue.length < 8 →
        exec (.deadlineExpiry i) s =
          .next (settle (setEntry i (some { e with state := .tombstone, time := s.settings.tombstone })
            (u.modifyPort e.origin fun r => { r with replyQueue := r.replyQueue ++ [⟨⟨e.tag, 0x20#8, []⟩, false⟩] })))) ∧
      (8 ≤ (s.port e.origin).replyQueue.length →
        exec (.deadlineExpiry i) s =
          .next (settle (setEntry i (some { e with state := .replyDue .timeout, time := 0 }) u)))) ∧
  (∀ (i : Fin 64) (e : TrackEntry) (s : State), s.resetLow = false → s.track[i] = some e → e.state = .orphaned →
    e.time = 0 →
    exec (.orphanDeadlineExpiry i) s =
      .next (settle (setEntry i (some { e with state := .tombstone, time := s.settings.tombstone }) s))) ∧
  (∀ (i : Fin 64) (e : TrackEntry) (s : State), s.resetLow = false → s.track[i] = some e → e.state = .tombstone →
    e.time = 0 → exec (.tombstoneExpiry i) s = .next (settle (setEntry i none s))) ∧
  (∀ (r : Fin 4) (l : Lock) (s : State), s.resetLow = false → s.locks[r] = some l → l.hold = 0 →
    exec (.lockHoldExpiry r) s =
      .next (settle (markForLocks (raiseFault
        { kind := .lockBroken, port := some l.holder, index := some (BitVec.ofNat 6 l.window.val), detail := some 1#8 }
        (setLock r none s)))))

/-! ### Parcels that arrive -/

/-- In TRAINING a HELLO with offers in range sets the heard mark, the peer node and the offers, and the seen mark if its flag
is set. With both marks set the port enters UP: the timers stop, the credits are the offers, nothing is owed, one closing
HELLO is sent first, and the alert route is checked. A HELLO with offers out of range is ignored (R5, R6, R178). That the
closing HELLO replaces the HELLOs that wait is the model's choice, log entry 14. -/
def Obligations.HelloIsAcceptedInTraining : Prop :=
  ∀ (p : Port) (bytes : List Byte) (n : Node) (a b : Byte) (f : Bool) (s : State), s.resetLow = false →
    (s.port p).link = .training → parse bytes = .parcel (.hello n a b f) →
    ((1 ≤ a.toNat ∧ a.toNat ≤ 12 ∧ 1 ≤ b.toNat ∧ b.toNat ≤ 8) → (s.port p).seen = false → f = false →
      exec (.helloAccept p bytes) s =
        .next (settle (s.modifyPort p fun r =>
          { r with heard := true, peerNode := some n, offers := some ⟨a.toNat, b.toNat⟩ }))) ∧
    ((1 ≤ a.toNat ∧ a.toNat ≤ 12 ∧ 1 ≤ b.toNat ∧ b.toNat ≤ 8) → (s.port p).seen = true ∨ f = true →
      exec (.helloAccept p bytes) s =
        .next (settle (routeCheck (s.modifyPort p fun r =>
          { r with link := .up, heard := true, seen := true, peerNode := some n, offers := some ⟨a.toNat, b.toNat⟩,
                   helloTimer := none, attemptTimer := none, credits := ⟨a.toNat, b.toNat⟩, owed := ⟨0, 0⟩,
                   tx := some (r.tx.getD ⟨.hello s.node 12#8 8#8 true, false⟩),
                   helloDue := if r.tx.isNone then 0 else 1 })))) ∧
    (¬ (1 ≤ a.toNat ∧ a.toNat ≤ 12 ∧ 1 ≤ b.toNat ∧ b.toNat ≤ 8) → exec (.helloAccept p bytes) s = .next s)

/-- In UP a HELLO with the seen flag set is discarded. One with the flag clear restarts the link: with no deferred action
waiting, the port is in TRAINING with the attempt count 0, has heard the peer of that HELLO if its offers are in range, and
holds no traffic (R12, R21, R3, R5). That the HELLO is accepted after all else is log entry 12. -/
def Obligations.HelloInUp : Prop :=
  ∀ (p : Port) (bytes : List Byte) (n : Node) (a b : Byte) (f : Bool) (s : State), s.resetLow = false →
    (s.port p).link = .up → parse bytes = .parcel (.hello n a b f) →
    (f = true → exec (.helloReceiveUp p bytes) s = .next s) ∧
    (f = false → s.actions = [] →
      ∃ t, exec (.helloReceiveUp p bytes) s = .next t ∧ (t.port p).link = .training ∧ (t.port p).attempts = 0 ∧
        (t.port p).seen = false ∧ (t.port p).attemptTimer = some 200 ∧ (t.port p).helloTimer = some 10 ∧
        (t.port p).tx = some ⟨.hello s.node 12#8 8#8 false, false⟩ ∧ NoTraffic (t.port p) ∧
        ((1 ≤ a.toNat ∧ a.toNat ≤ 12 ∧ 1 ≤ b.toNat ∧ b.toNat ≤ 8) →
          (t.port p).heard = true ∧ (t.port p).peerNode = some n ∧ (t.port p).offers = some ⟨a.toNat, b.toNat⟩) ∧
        (¬ (1 ≤ a.toNat ∧ a.toNat ≤ 12 ∧ 1 ≤ b.toNat ∧ b.toNat ≤ 8) →
          (t.port p).heard = false ∧ (t.port p).peerNode = none ∧ (t.port p).offers = none))

/-- In UP a request or a reply with room in its lane has its credits added, each up to the peer's offer, and joins the tail
of its lane; a request in an empty lane becomes the head (R11, R13, R14, R16, R65). A CREDIT has its credits added and takes
no slot; a parcel of unknown kind is discarded with its MALFORMED fault (R11). -/
def Obligations.ParcelsInUpAreSorted : Prop :=
  ∀ (p : Port) (bytes : List Byte) (c : Credits) (o : LanePair) (s : State), s.resetLow = false →
    (s.port p).link = .up → (s.port p).offers = some o →
    (∀ q, parse bytes = .parcel (.request c q) → (s.port p).reqLane.length < 12 →
      exec (.requestParcelReceive p bytes) s =
        .next (settle (s.modifyPort p fun r =>
          { r with credits := ⟨min (r.credits.req + c.req.toNat) o.req, min (r.credits.rep + c.rep.toNat) o.rep⟩,
                   reqLane := r.reqLane ++ [q], head := if r.reqLane = [] then .unexamined else r.head }))) ∧
    (∀ q, parse bytes = .parcel (.reply c q) → (s.port p).repLane.length < 8 →
      exec (.replyParcelReceive p bytes) s =
        .next (settle (s.modifyPort p fun r =>
          { r with credits := ⟨min (r.credits.req + c.req.toNat) o.req, min (r.credits.rep + c.rep.toNat) o.rep⟩,
                   repLane := r.repLane ++ [q] }))) ∧
    (parse bytes = .parcel (.credit c) →
      exec (.creditReceive p bytes) s =
        .next (settle (s.modifyPort p fun r =>
          { r with credits := ⟨min (r.credits.req + c.req.toNat) o.req,
                               min (r.credits.rep + c.rep.toNat) o.rep⟩ }))) ∧
    (parse bytes = .unknownKind →
      exec (.unknownKindReceive p bytes) s =
        .next (settle (raiseFault { kind := .malformed, port := some p, detail := some 1#8 } s)))

/-- What a port discards without any effect: every parcel in OFF and HALTED (R8), and in TRAINING a damaged parcel (R10) and
every good parcel that is not a HELLO (R11). -/
def Obligations.DiscardedParcelsChangeNothing : Prop :=
  ∀ (p : Port) (bytes : List Byte) (s : State),
    ((s.port p).link = .off ∨ (s.port p).link = .halted → exec (.parcelDiscardInactive p bytes) s = .next s) ∧
    ((s.port p).link = .training → exec (.damagedParcel p bytes) s = .next s) ∧
    ((s.port p).link = .training → exec (.trainingParcelDiscard p bytes) s = .next s)

/-! ### Link loss -/

/-- A link loss records exactly one fault of its own, of the kind that names its cause, before every other fault of the
event (R20, R116, R167). The lists here have room and keep their oldest records, so that a record stays in its place. Of what
a received parcel sets off, no later record is of a loss of the same port, and with no deferred action waiting none is of any
loss. `loseLink` is the loss itself, for every cause of R20: after its own fault comes one LOCK_BROKEN for each lock of the
port, lowest record first, with detail FENCE at an overrun and otherwise LINK (R115, R116, R117). The third clause says the same
of the break itself, which a FENCE makes with no fault before it. The last says what else the break does, in every state: the
records of the port are FREE, every head that waits is marked for examination when there was one, and nothing else changes
but the Fault List, FLT# and the alert (R66, R113, R115, R117, R152). -/
def Obligations.LinkLossRecordsItsOwnFaultFirst : Prop :=
  (∀ (p : Port) (report : FaultReport) (c : Instr) (s : State), LosesLink p report c s →
    s.faultList.policy = .keepOldest → s.faultList.records.length < 32 →
    ∃ t later, exec c s = .next t ∧
      t.faultList.records = s.faultList.records ++ ⟨s.faultList.nextSeq, s.time, report⟩ :: later ∧
      ∀ f ∈ later, f.report.kind = .linkCheck ∨ f.report.kind = .linkLost ∨ f.report.kind = .overrun →
        f.report.port ≠ some p ∧ s.actions ≠ []) ∧
  (∀ (x : Port) (cause : LossCause) (s : State), s.faultList.policy = .keepOldest → s.faultList.records.length + 5 ≤ 32 →
    ∃ (own : FaultReport) (detail : Byte) (broken : List FaultRecord),
      (cause = .linkCheck → own = { kind := .linkCheck, port := some x }) ∧
      (cause = .peerRestart → own = { kind := .linkLost, port := some x, detail := some 1#8 }) ∧
      (cause = .restart → own = { kind := .linkLost, port := some x, detail := some 2#8 }) ∧
      (cause = .disabled → own = { kind := .linkLost, port := some x, detail := some 3#8 }) ∧
      (cause = .overrunRequest → own = { kind := .overrun, port := some x, detail := some 1#8 }) ∧
      (cause = .overrunReply → own = { kind := .overrun, port := some x, detail := some 2#8 }) ∧
      (cause = .overrunRequest ∨ cause = .overrunReply → detail = 3#8) ∧
      (cause ≠ .overrunRequest → cause ≠ .overrunReply → detail = 2#8) ∧
      BrokenLockFaults x detail (s.faultList.nextSeq + 1#16) s broken ∧
      (loseLink x cause s).faultList.records =
        s.faultList.records ++ ⟨s.faultList.nextSeq, s.time, own⟩ :: broken) ∧
  (∀ (x : Port) (cause : BreakCause) (detail : Byte) (s : State),
    (cause = .link ∧ detail = 2#8) ∨ (cause = .fence ∧ detail = 3#8) →
    s.faultList.policy = .keepOldest → s.faultList.records.length + 4 ≤ 32 →
    ∃ broken : List FaultRecord, BrokenLockFaults x detail s.faultList.nextSeq s broken ∧
      (breakHeldBy x cause s).faultList.records = s.faultList.records ++ broken) ∧
  (∀ (x : Port) (cause : BreakCause) (s : State), ∃ t, t = breakHeldBy x cause s ∧ LocksFreed x s t ∧
    (∀ q, ∃ mark, t.port q = { s.port q with recheck := mark } ∧
      (mark = true ↔ (s.port q).recheck = true ∨ (HoldsLock x s ∧ HeadWaits (s.port q)))) ∧
    ∃ ports flt locks faults alert,
      t = { s with ports := ports, fltLow := flt, locks := locks, faultList := faults, alert := alert })

/-- A link loss empties its port: no traffic, no peer, the fenced flag kept, or set by an overrun, and the fenced-drop count and
the pointers kept (R21, R18, R77, R85). After a disable request the port is OFF and silent (R8, R9; that it abandons what is
being sent is log entry 6), and after every other cause it is in TRAINING with its first attempt begun (R3). The first clause
says it of a received parcel, with no deferred action waiting; there the HELLO that caused the loss has named the peer again.
The second says it of `loseLink`, the loss itself, for every cause of R20, in every state. -/
def Obligations.LinkLossEmptiesThePort : Prop :=
  (∀ (p : Port) (report : FaultReport) (c : Instr) (s : State), LosesLink p report c s → s.actions = [] →
    ∃ t, exec c s = .next t ∧ NoTraffic (t.port p) ∧ (t.port p).link = .training ∧ (t.port p).attempts = 0 ∧
      (t.port p).seen = false ∧ (t.port p).helloTimer = some 10 ∧ (t.port p).attemptTimer = some 200 ∧
      (t.port p).tx = some ⟨.hello s.node 12#8 8#8 false, false⟩ ∧
      (t.port p).fenced = ((s.port p).fenced || report.kind == .overrun) ∧
      (t.port p).fencedDrops = (s.port p).fencedDrops ∧ (t.port p).arbPointer = (s.port p).arbPointer ∧
      (t.port p).queuePointer = (s.port p).queuePointer ∧
      (report.kind ≠ .linkLost →
        (t.port p).heard = false ∧ (t.port p).peerNode = none ∧ (t.port p).offers = none)) ∧
  (∀ (x : Port) (cause : LossCause) (s : State), ∃ r : PortRec, r = (loseLink x cause s).port x ∧ NoTraffic r ∧
    r.peerNode = none ∧ r.offers = none ∧ r.helloDue = 0 ∧ r.recheck = false ∧
    (cause = .overrunRequest ∨ cause = .overrunReply → r.fenced = true) ∧
    (cause ≠ .overrunRequest → cause ≠ .overrunReply → r.fenced = (s.port x).fenced) ∧
    r.fencedDrops = (s.port x).fencedDrops ∧ r.arbPointer = (s.port x).arbPointer ∧
    r.queuePointer = (s.port x).queuePointer ∧
    (cause = .disabled → r.link = .off ∧ r.helloTimer = none ∧ r.attemptTimer = none ∧ r.tx = none) ∧
    (cause ≠ .disabled → r.link = .training ∧ r.attempts = 0 ∧ r.heard = false ∧ r.seen = false ∧
      r.helloTimer = some 10 ∧ r.attemptTimer = some 200 ∧ r.tx = some ⟨.hello s.node 12#8 8#8 false, false⟩))

/-- After a link loss on a port no lock is held by it, no entry with it as origin is ACTIVE or REPLY_DUE, no entry with it as
destination is ACTIVE, no directive reply is held for it, and no action waits on its replies (R100 to R103, R115 to R117,
R134, R137). The second clause says what a received parcel of R20 comes to: the loss, then the deferred actions of the port
oldest first, then for a HELLO its acceptance (log entry 12). The third says what the loss does to each block, for every cause
and in every state: each entry, the LINK_LOST answers of the origins that are UP, the replies in hand, the locks, the queued
alert note, the held reply, and the heads of other ports. Those resolved to the lost port are marked for examination, and so is
every head that waits when the port held a lock (R22, R66, R85, R99 to R102, R113, R115, R116, R134, R178, R179). Nothing else
changes. -/
def Obligations.LinkLossReachesEveryBlock : Prop :=
  (∀ (p : Port) (report : FaultReport) (c : Instr) (s : State), LosesLink p report c s →
    ∃ t, exec c s = .next t ∧
      (∀ (r : Fin 4) (l : Lock), t.locks[r] = some l → l.holder ≠ p) ∧
      (∀ (i : Fin 64) (e : TrackEntry), t.track[i] = some e →
        (e.origin = p → ∀ b st, e.state ≠ .active b ∧ e.state ≠ .replyDue st) ∧
        (e.dest = p → ∀ b, e.state ≠ .active b)) ∧
      (∀ q, t.mgmt ≠ .replyHeld p q) ∧ (∀ a ∈ t.actions, a.origin ≠ p)) ∧
  (∀ (p : Port) (bytes : List Byte) (s : State), s.resetLow = false → (s.port p).link = .up →
    ∃ after : LossCause → State,
      (∀ cause, after cause = takeActions (s.actions.filter fun a => a.origin == p) (loseLink p cause s)) ∧
      (parse bytes = .damaged → exec (.damagedParcel p bytes) s = .next (settle (after .linkCheck))) ∧
      (∀ k r, parse bytes = .parcel (.request k r) → 12 ≤ (s.port p).reqLane.length →
        exec (.requestParcelReceive p bytes) s = .next (settle (after .overrunRequest))) ∧
      (∀ k r, parse bytes = .parcel (.reply k r) → 8 ≤ (s.port p).repLane.length →
        exec (.replyParcelReceive p bytes) s = .next (settle (after .overrunReply))) ∧
      (∀ (n : Node) (a b : Byte), parse bytes = .parcel (.hello n a b false) →
        (((after .peerRestart).port p).link = .training →
          (1 ≤ a.toNat ∧ a.toNat ≤ 12 ∧ 1 ≤ b.toNat ∧ b.toNat ≤ 8) →
          exec (.helloReceiveUp p bytes) s =
            .next (settle ((after .peerRestart).modifyPort p fun r =>
              { r with heard := true, peerNode := some n, offers := some ⟨a.toNat, b.toNat⟩ }))) ∧
        (((after .peerRestart).port p).link ≠ .training ∨
            ¬ (1 ≤ a.toNat ∧ a.toNat ≤ 12 ∧ 1 ≤ b.toNat ∧ b.toNat ≤ 8) →
          exec (.helloReceiveUp p bytes) s = .next (settle (after .peerRestart))))) ∧
  (∀ (x : Port) (cause : LossCause) (s : State), ∃ t : State, t = loseLink x cause s ∧
    EntriesAfterLoss x s t ∧ (∀ q, q ≠ x → s.isUp q = true → AnswersAfterLoss x q s t) ∧
    (∀ q, q ≠ x → LaneAfterLoss x q s t) ∧ LocksFreed x s t ∧ NoteAfterLoss x s t ∧
    (∀ r, s.mgmt = .replyHeld x r → t.mgmt = .idle) ∧ ((∀ r, s.mgmt ≠ .replyHeld x r) → t.mgmt = s.mgmt) ∧
    (∀ q, q ≠ x → ∃ lane owed queue mark,
      t.port q = { s.port q with repLane := lane, owed := owed, replyQueue := queue, recheck := mark } ∧
      (mark = true ↔ (s.port q).recheck = true ∨ HeadedFor x (s.port q) ∨ (HoldsLock x s ∧ HeadWaits (s.port q)))) ∧
    ∃ ports flt track locks mgmt faults alert, t =
      { s with ports := ports, fltLow := flt, track := track, locks := locks, mgmt := mgmt, faultList := faults,
               alert := alert, actions := s.actions.filter fun a => a.origin != x })

/-! ### Parcels that leave -/

/-- When a parcel has left, the transmitter is free, or begins the next HELLO that waits; an alert note that has left is
queued no more, and the route of a pending alert is checked (R3, R19, R179). With nothing in transmission there is no such
event (log entry 3), and HELLOs that wait are counted and sent one after another (log entry 14). -/
def Obligations.ParcelLeftFreesTheTransmitter : Prop :=
  (∀ (p : Port) (s : State), (s.port p).tx = none → exec (.parcelLeft p) s = .next s) ∧
  (∀ (p : Port) (x : Parcel) (s : State), s.resetLow = false → (s.port p).tx = some ⟨x, false⟩ →
    (∀ q, s.alert.queued = some q → q.out = p → q.sending = false) →
    ((s.port p).helloDue = 0 →
      exec (.parcelLeft p) s = .next (settle (s.modifyPort p fun r => { r with tx := none }))) ∧
    (∀ k, (s.port p).helloDue = k + 1 →
      exec (.parcelLeft p) s =
        .next (settle (s.modifyPort p fun r =>
          { r with tx := some ⟨.hello s.node 12#8 8#8 r.heard, false⟩, helloDue := k })))) ∧
  (∀ (p : Port) (x : Parcel) (q : QueuedNote) (s : State), s.resetLow = false → (s.port p).tx = some ⟨x, false⟩ →
    (s.port p).helloDue = 0 → s.alert.queued = some q → q.out = p → q.sending = true →
    exec (.parcelLeft p) s =
      .next (settle (routeCheck
        { (s.modifyPort p fun r => { r with tx := none }) with alert := { s.alert with queued := none } })))

/-- When a reply with a deferred action has left, the action leaves the list and takes effect on the state as it stands: a
node number moves SELF with it (R126), a warm reset is performed (R157), and a disable or restart request acts by the link
state of the port it names (R9, R136, R149, R150). That the oldest action of the origin is the tied one is log entry 17, and
that OFF abandons what is being sent log entry 6; HELLOs that wait are counted, log entry 14. An alert note may be queued at any
port, but is not the parcel that left (R179). A link loss sets off the actions tied to its own port's replies (R137). The
second part says how a list of actions is taken, oldest first: one that causes a link loss puts the actions of that port
before those that remain (log entry 12), and a warm reset discards all that remain (R138). -/
def Obligations.DeferredActionFollowsItsReply : Prop :=
  (∀ (p : Port) (x : Parcel) (a : PendingAction) (s : State), s.resetLow = false → (s.port p).tx = some ⟨x, true⟩ →
    (s.port p).helloDue = 0 → (∀ q, s.alert.queued = some q → q.out = p → q.sending = false) →
    s.actions.find? (fun b => b.origin == p) = some a →
    ∃ u, u = { (s.modifyPort p fun r => { r with tx := none }) with actions := s.actions.erase a } ∧
      (∀ n, a.kind = .setNode n → n ≠ s.node →
        exec (.parcelLeft p) s =
          .next (settle (routeCheck
            { u with node := n, nodeTable := (s.nodeTable.set s.node .unreachable).set n .self }))) ∧
      (a.kind = .setNode s.node → exec (.parcelLeft p) s = .next (settle u)) ∧
      (a.kind = .resetRouter → exec (.parcelLeft p) s = .next (settle (warmReset u))) ∧
      (∀ q, a.kind = .disable q → (s.port q).link = .off → exec (.parcelLeft p) s = .next (settle u)) ∧
      (∀ q, a.kind = .disable q → (s.port q).link = .training ∨ (s.port q).link = .halted →
        exec (.parcelLeft p) s =
          .next (settle (u.modifyPort q fun r =>
            { r with link := .off, helloTimer := none, attemptTimer := none, tx := none, helloDue := 0,
                     peerNode := none, offers := none }))) ∧
      (∀ q, a.kind = .disable q → (s.port q).link = .up → (∀ b ∈ u.actions, b.origin ≠ q) →
        exec (.parcelLeft p) s = .next (settle (loseLink q .disabled u))) ∧
      (∀ q, a.kind = .restart q → (s.port q).link = .off ∨ (s.port q).link = .halted →
        exec (.parcelLeft p) s = .next (settle u)) ∧
      (∀ q, a.kind = .restart q → (s.port q).link = .training → (u.port q).tx = none →
        exec (.parcelLeft p) s =
          .next (settle (u.modifyPort q fun r =>
            { r with attempts := 0, heard := false, seen := false, helloTimer := some 10, attemptTimer := some 200,
                     tx := some ⟨.hello s.node 12#8 8#8 false, false⟩ }))) ∧
      (∀ q, a.kind = .restart q → (s.port q).link = .up → (∀ b ∈ u.actions, b.origin ≠ q) →
        exec (.parcelLeft p) s = .next (settle (loseLink q .restart u))) ∧
      (∀ q, a.kind = .restart q → (s.port q).link = .training → (u.port q).tx ≠ none →
        exec (.parcelLeft p) s =
          .next (settle (u.modifyPort q fun r =>
            { r with attempts := 0, heard := false, seen := false, helloTimer := some 10, attemptTimer := some 200,
                     helloDue := r.helloDue + 1 }))) ∧
      (∀ q cause, (a.kind = .disable q ∧ cause = .disabled) ∨ (a.kind = .restart q ∧ cause = .restart) →
        (s.port q).link = .up →
        exec (.parcelLeft p) s =
          .next (settle (takeActions (u.actions.filter fun b => b.origin == q) (loseLink q cause u))))) ∧
  (∀ s : State, takeActions [] s = s) ∧
  (∀ (o q : Port) (rest : List PendingAction) (s : State),
    (∀ k cause, (k = .disable q ∧ cause = .disabled) ∨ (k = .restart q ∧ cause = .restart) → (s.port q).link = .up →
      takeActions (⟨k, o⟩ :: rest) s =
        takeActions ((s.actions.filter fun b => b.origin == q) ++ rest) (loseLink q cause s)) ∧
    ((s.port q).link = .off → takeActions (⟨.disable q, o⟩ :: rest) s = takeActions rest s) ∧
    ((s.port q).link = .training ∨ (s.port q).link = .halted →
      takeActions (⟨.disable q, o⟩ :: rest) s =
        takeActions rest (s.modifyPort q fun r =>
          { r with link := .off, helloTimer := none, attemptTimer := none, tx := none, helloDue := 0, peerNode := none,
                   offers := none })) ∧
    ((s.port q).link = .off ∨ (s.port q).link = .halted →
      takeActions (⟨.restart q, o⟩ :: rest) s = takeActions rest s) ∧
    ((s.port q).link = .training →
      takeActions (⟨.restart q, o⟩ :: rest) s =
        takeActions rest (s.modifyPort q fun r =>
          { r with attempts := 0, heard := false, seen := false, helloTimer := some 10, attemptTimer := some 200,
                   tx := some (r.tx.getD ⟨.hello s.node 12#8 8#8 false, false⟩),
                   helloDue := if r.tx.isNone then r.helloDue else r.helloDue + 1 })) ∧
    takeActions (⟨.resetRouter, o⟩ :: rest) s = warmReset s ∧
    (∀ n, n ≠ s.node →
      takeActions (⟨.setNode n, o⟩ :: rest) s =
        takeActions rest (routeCheck
          { s with node := n, nodeTable := (s.nodeTable.set s.node .unreachable).set n .self })) ∧
    takeActions (⟨.setNode s.node, o⟩ :: rest) s = takeActions rest s)

/-! ### Replies from targets -/

/-- The reply at the head of a reply lane is handled by the state and the destination of the entry that its tag names, by the
table of R93, and one matched to an ACTIVE entry is relayed with its origin tag, or waits in hand (R94). One that waits in
hand is not taken again (log entry 3). -/
def Obligations.RepliesAreMatchedByTagAndPort : Prop :=
  ∀ (p : Port) (r : Reply) (rest : List Reply) (s : State), s.resetLow = false → (s.port p).repLane = r :: rest →
    (63 < r.tag.toNat →
      exec (.replyMatch p) s =
        .next (settle (popReply p (raiseFault { kind := .strayReply, port := some p, tag := some r.tag } s)))) ∧
    (∀ i : Fin 64, r.tag.toNat = i.val →
      (s.track[i] = none →
        exec (.replyMatch p) s =
          .next (settle (popReply p (raiseFault { kind := .strayReply, port := some p, tag := some r.tag } s)))) ∧
      (∀ e, s.track[i] = some e →
        (e.dest ≠ p →
          exec (.replyMatch p) s =
            .next (settle (popReply p (raiseFault { kind := .strayReply, port := some p, tag := some r.tag } s)))) ∧
        (e.dest = p → e.state = .tombstone ∨ (∃ st, e.state = .replyDue st) →
          exec (.replyMatch p) s =
            .next (settle (popReply p (raiseFault { kind := .lateReply, port := some p, tag := some r.tag } s)))) ∧
        (e.dest = p → e.state = .orphaned →
          exec (.replyMatch p) s = .next (settle (popReply p (setEntry i none s)))) ∧
        (e.dest = p → e.state = .active false → s.isUp e.origin = true → (s.port e.origin).replyQueue.length < 8 →
          exec (.replyMatch p) s =
            .next (settle (popReply p (setEntry i none (s.modifyPort e.origin fun q =>
              { q with replyQueue := q.replyQueue ++ [⟨⟨e.tag, r.status, r.payload⟩, false⟩],
                       queuePointer := ⟨p.val, by omega⟩ }))))) ∧
        (e.dest = p → e.state = .active false → 8 ≤ (s.port e.origin).replyQueue.length →
          exec (.replyMatch p) s = .next (settle (setEntry i (some { e with state := .active true }) s))) ∧
        (e.dest = p → e.state = .active true → exec (.replyMatch p) s = .next (settle s))))

/-! ### Heads -/

/-- A request head is malformed exactly under the conditions of R29, and the detail is the first of LENGTH, ALIGN, NODE and
HOP. -/
def Obligations.MalformedHeadsByTheTable : Prop :=
  ∀ r : Request, ∃ badLength badAlign badNode badHop : Prop,
    (badLength ↔
      (r.kind = .fetch ∧ (r.length.toNat = 0 ∨ 16 < r.length.toNat ∨ r.payload ≠ [])) ∨
      ((r.kind = .store ∨ r.kind = .storeC) ∧
        (r.length.toNat = 0 ∨ 16 < r.length.toNat ∨ r.payload.length ≠ r.length.toNat)) ∨
      (r.kind = .swap ∧ (r.length.toNat = 0 ∨ 2 < r.length.toNat ∨ r.payload.length ≠ r.length.toNat)) ∨
      ((r.kind = .claim ∨ r.kind = .release) ∧ (r.length.toNat ≠ 0 ∨ r.payload ≠ [])) ∨
      (r.kind = .directive ∧ (8 < r.length.toNat ∨ r.payload.length ≠ r.length.toNat)) ∨
      (r.kind = .note ∧ (r.length.toNat ≠ 2 ∨ r.payload.length ≠ 2))) ∧
    (badAlign ↔ r.kind ≠ .directive ∧ r.kind ≠ .note ∧ r.addr.toNat % 4 ≠ 0) ∧
    (badNode ↔ (r.kind = .directive ∨ r.kind = .note) ∧ (31 < r.target.toNat ∨ 31 < r.source.toNat)) ∧
    (badHop ↔ (r.kind = .directive ∨ r.kind = .note) ∧ 15 < r.hop.toNat) ∧
    (malformation r = some .length ↔ badLength) ∧
    (malformation r = some .align ↔ ¬ badLength ∧ badAlign) ∧
    (malformation r = some .node ↔ ¬ badLength ∧ badNode) ∧
    (malformation r = some .hop ↔ ¬ badLength ∧ ¬ badNode ∧ badHop) ∧
    (malformation r = none ↔ ¬ badLength ∧ ¬ badAlign ∧ ¬ badNode ∧ ¬ badHop)

/-- The fence check comes first: a posted head of a fenced port is dropped and counted, a non-posted one refused FENCED, and
only an UNFENCE for this router on the manager port passes (R68, R24). A malformed head is dropped with its fault, or refused
with its detail (R30). A refusal is admitted when the Reply Queue has room, and otherwise waits in ANSWERED (R75). -/
def Obligations.FenceAndFormComeFirst : Prop :=
  (∀ (x : Port) (h : Request) (rest : List Request) (s : State), (s.port x).reqLane = h :: rest →
    ∃ passes : Prop, (passes ↔ (s.port x).fenced = false ∨
        (h.kind = .directive ∧ h.target.toNat = s.node.val ∧ h.command = 0x07#8 ∧ s.manager = some x)) ∧
      (¬ passes → (h.kind = .store ∨ h.kind = .note) →
        examineHead x s =
          popHead x (s.modifyPort x fun r => { r with fencedDrops := min (r.fencedDrops + 1) 65535 })) ∧
      (¬ passes → h.kind ≠ .store → h.kind ≠ .note →
        examineHead x s = offerAnswer x none ⟨h.tag, 0x13#8, []⟩ s) ∧
      (∀ m, passes → malformation h = some m → (h.kind = .store ∨ h.kind = .note) →
        examineHead x s =
          popHead x (raiseFault { kind := .malformed, port := some x, tag := some h.tag, detail := some m.code } s)) ∧
      (∀ m, passes → malformation h = some m → h.kind ≠ .store → h.kind ≠ .note →
        examineHead x s = offerAnswer x none ⟨h.tag, 0x16#8, [m.code.setWidth 32]⟩ s)) ∧
  (∀ (x : Port) (res : Option Resolution) (reply : Reply) (s : State), (s.port x).link = .up →
    ((s.port x).replyQueue.length < 8 →
      offerAnswer x res reply s = popHead x (s.modifyPort x fun r =>
        { r with replyQueue := r.replyQueue ++ [⟨reply, false⟩], queuePointer := 6 })) ∧
    (8 ≤ (s.port x).replyQueue.length →
      offerAnswer x res reply s = s.modifyPort x fun r => { r with head := .answered res reply, recheck := false }))

/-- A well-formed DIRECTIVE or NOTE on an unfenced port is resolved by its target: offered to the Management Unit or discarded
as unhandled, stopped by a hop limit of 0, stopped for want of a route, or resolved to an output (R70). On a fenced port the
UNFENCE for this router that arrives on the manager port is offered in the same way (R68, R23). -/
def Obligations.DirectivesAndNotesResolveByNode : Prop :=
  ∀ (x : Port) (h : Request) (rest : List Request) (n : Node) (s : State), (s.port x).reqLane = h :: rest →
    ((s.port x).fenced = false ∨
      (h.kind = .directive ∧ h.target.toNat = s.node.val ∧ h.command = 0x07#8 ∧ s.manager = some x)) →
    malformation h = none → h.target.toNat = n.val →
    ∃ g, g = s.windows.generation ∧
    (h.kind = .directive →
      (n = s.node →
        examineHead x s =
          s.modifyPort x fun r => { r with head := .offered ⟨.management, g⟩, recheck := false }) ∧
      (n ≠ s.node → h.hop.toNat = 0 →
        examineHead x s =
          offerAnswer x (some ⟨.nodeRefused .hopLimit, g⟩) ⟨h.tag, 0x15#8, []⟩
            (raiseFault { kind := .hopLimit, port := some x, detail := some h.target } s)) ∧
      (n ≠ s.node → h.hop.toNat ≠ 0 → s.nodeTable[n] = .unreachable →
        examineHead x s = offerAnswer x (some ⟨.nodeRefused .noRoute, g⟩) ⟨h.tag, 0x10#8, []⟩ s)) ∧
    (h.kind = .note →
      (n = s.node →
        examineHead x s =
          popHead x (raiseFault { kind := .unhandledNote, port := some x, detail := some h.source } s)) ∧
      (n ≠ s.node → h.hop.toNat = 0 →
        examineHead x s =
          popHead x (raiseFault { kind := .hopLimit, port := some x, detail := some h.target } s)) ∧
      (n ≠ s.node → h.hop.toNat ≠ 0 → s.nodeTable[n] = .unreachable →
        examineHead x s = popHead x (raiseFault { kind := .noRoute, port := some x } s))) ∧
    (h.kind = .directive ∨ h.kind = .note → n ≠ s.node → h.hop.toNat ≠ 0 →
      ∀ p, s.nodeTable[n] = .port p → examineHead x s = outputChecks x h ⟨.forward p n, g⟩ s)

/-- A well-formed memory or path-lock head on an unfenced port is resolved by the lookup: refused or dropped for NO_ROUTE and
DENIED, decided by the Lock Table for CLAIM and RELEASE, and resolved to its output otherwise (R69, R71, R76). -/
def Obligations.AddressesResolveByWindow : Prop :=
  ∀ (x : Port) (h : Request) (rest : List Request) (s : State), (s.port x).reqLane = h :: rest →
    (s.port x).fenced = false → malformation h = none → h.kind ≠ .directive → h.kind ≠ .note →
    ∃ g, g = s.windows.generation ∧
    (lookup s.windows.active x h = .noRoute →
      (h.kind = .store →
        examineHead x s = popHead x (raiseFault { kind := .noRoute, port := some x, addr := some h.addr } s)) ∧
      (h.kind ≠ .store → examineHead x s = offerAnswer x (some ⟨.noWindow, g⟩) ⟨h.tag, 0x10#8, []⟩ s)) ∧
    (∀ i, lookup s.windows.active x h = .denied i →
      (h.kind = .store →
        examineHead x s =
          popHead x (raiseFault { kind := .denied, port := some x, addr := some h.addr,
                                  index := some (BitVec.ofNat 6 i.val) } s)) ∧
      (h.kind ≠ .store → examineHead x s = offerAnswer x (some ⟨.windowDenied i, g⟩) ⟨h.tag, 0x11#8, []⟩ s)) ∧
    (∀ i d out, lookup s.windows.active x h = .routed i d out →
      (h.kind = .claim →
        examineHead x s =
          offerAnswer x (some ⟨.pathLock i d out (decideClaim x i s).1, g⟩)
            ⟨h.tag, (decideClaim x i s).1.code, []⟩ (decideClaim x i s).2) ∧
      (h.kind = .release →
        examineHead x s =
          offerAnswer x (some ⟨.pathLock i d out (decideRelease x i s).1, g⟩)
            ⟨h.tag, (decideRelease x i s).1.code, []⟩ (decideRelease x i s).2) ∧
      (h.kind ≠ .claim → h.kind ≠ .release → examineHead x s = outputChecks x h ⟨.memory i d out, g⟩ s))

/-- A head resolved to an output that is not UP is refused NO_LINK or dropped with its fault; a memory head whose window
another port has locked waits; every other head is offered. A later examination applies the fence, the output-link and the
lock check, in that order, to the resolution held (R66, R72, R73, R74, R76). On a fenced port the UNFENCE that was resolved to
the Management Unit passes again while its port is the manager port, whatever the node number is by then (R68, R122, R126).
A marking sets the mark of the heads that are OFFERED or in LOCK_WAIT at the ports it names, and nothing else (R66). -/
def Obligations.OutputLinkAndLockChecks : Prop :=
  (∀ (x : Port) (h : Request) (res : Resolution) (d : Port) (s : State), res.route.output = some d →
    ((s.port d).link ≠ .up → h.kind = .store →
      outputChecks x h res s = popHead x (raiseFault { kind := .noLink, port := some x, addr := some h.addr } s)) ∧
    ((s.port d).link ≠ .up → h.kind = .note →
      outputChecks x h res s = popHead x (raiseFault { kind := .noLink, port := some x } s)) ∧
    ((s.port d).link ≠ .up → h.kind ≠ .store → h.kind ≠ .note →
      outputChecks x h res s = offerAnswer x (some res) ⟨h.tag, 0x12#8, []⟩ s) ∧
    (∀ w out (r : Fin 4) (l : Lock), (s.port d).link = .up → res.route = .memory w d out → s.locks[r] = some l →
      l.window = w → l.holder ≠ x →
      outputChecks x h res s = s.modifyPort x fun q => { q with head := .lockWait res, recheck := false }) ∧
    ((s.port d).link = .up →
      (∀ w out (r : Fin 4) (l : Lock), res.route = .memory w d out → s.locks[r] = some l → l.window = w →
        l.holder = x) →
      outputChecks x h res s = s.modifyPort x fun q => { q with head := .offered res, recheck := false })) ∧
  (∀ (x : Port) (h : Request) (rest : List Request) (res : Resolution) (s : State), (s.port x).reqLane = h :: rest →
    (s.port x).head = .offered res ∨ (s.port x).head = .lockWait res →
    ∃ passes : Prop, (passes ↔ (s.port x).fenced = false ∨
        (h.kind = .directive ∧ h.command = 0x07#8 ∧ res.route = .management ∧ s.manager = some x)) ∧
      (passes → reexamineHead x s = outputChecks x h res s) ∧
      (¬ passes → (h.kind = .store ∨ h.kind = .note) →
        reexamineHead x s =
          popHead x (s.modifyPort x fun r => { r with fencedDrops := min (r.fencedDrops + 1) 65535 })) ∧
      (¬ passes → h.kind ≠ .store → h.kind ≠ .note →
        reexamineHead x s = offerAnswer x (some res) ⟨h.tag, 0x13#8, []⟩ s)) ∧
  (∀ (x : Port) (h : Request) (res : Resolution) (s : State), res.route.output = none →
    outputChecks x h res s = s.modifyPort x fun q => { q with head := .offered res, recheck := false }) ∧
  (∀ (which : Port → PortRec → Bool) (x : Port) (s : State), ∃ waits : Prop,
    (waits ↔ ∃ res, (s.port x).head = .offered res ∨ (s.port x).head = .lockWait res) ∧
    (waits → which x (s.port x) = true → (markHeads which s).port x = { s.port x with recheck := true }) ∧
    (¬ waits ∨ which x (s.port x) = false → (markHeads which s).port x = s.port x) ∧
    (∃ ports, markHeads which s = { s with ports := ports }) ∧ markForLocks s = markHeads (fun _ _ => true) s)

/-- A request that arrives at a fenced port with an empty lane, of a router at rest: a posted one is dropped and counted, with
no fault (said for one that returns no credit, since a returned credit lets other requests leave). A non-posted one, but for
the UNFENCE for this router on the manager port, is refused FENCED, and the answer is queued or is being sent on its own port.
In both cases the lane is empty again. With a full Reply Queue the refused head waits in ANSWERED, unless a reply credit that
the request returns lets a reply leave (R13, R23, R24, R65, R68, R75). The UNFENCE that passes is taken by the Management Unit
when that is IDLE, and otherwise waits for it (R68, R82); this too is said for one that returns no credit. -/
def Obligations.FencedPortsTakeNoRequests : Prop :=
  ∀ (p : Port) (bytes : List Byte) (c : Credits) (q : Request) (s : State), s.resetLow = false → Quiet s →
    (s.port p).link = .up → (s.port p).fenced = true → (s.port p).reqLane = [] →
    parse bytes = .parcel (.request c q) →
    ∃ passes : Prop,
    (passes ↔ q.kind = .directive ∧ q.target.toNat = s.node.val ∧ q.command = 0x07#8 ∧ s.manager = some p) ∧
    ((q.kind = .store ∨ q.kind = .note) →
      ∃ t, exec (.requestParcelReceive p bytes) s = .next t ∧ (t.port p).reqLane = [] ∧
        (t.port p).fencedDrops = min ((s.port p).fencedDrops + 1) 65535 ∧
        (c = ⟨0#4, 0#4⟩ → t.faultList = s.faultList)) ∧
    (q.kind ≠ .store → q.kind ≠ .note → ¬ passes → (s.port p).replyQueue.length < 8 →
      ∃ t, exec (.requestParcelReceive p bytes) s = .next t ∧ (t.port p).reqLane = [] ∧
        AnsweredOn p ⟨q.tag, 0x13#8, []⟩ t) ∧
    (q.kind ≠ .store → q.kind ≠ .note → ¬ passes → 8 ≤ (s.port p).replyQueue.length →
      ∃ (t : State) (waits : Prop), exec (.requestParcelReceive p bytes) s = .next t ∧
        (waits ↔ (t.port p).reqLane = [q] ∧ (t.port p).head = .answered none ⟨q.tag, 0x13#8, []⟩) ∧
        (waits ∨ ((t.port p).reqLane = [] ∧ AnsweredOn p ⟨q.tag, 0x13#8, []⟩ t)) ∧
        (c.rep = 0#4 → waits ∧ (t.port p).replyQueue = (s.port p).replyQueue)) ∧
    (passes → malformation q = none → c = ⟨0#4, 0#4⟩ →
      ∃ t, exec (.requestParcelReceive p bytes) s = .next t ∧
        (s.mgmt = .idle → (t.port p).reqLane = [] ∧ t.mgmt = .executing ⟨p, q.tag, q.command, q.length, q.payload⟩) ∧
        (s.mgmt ≠ .idle → (t.port p).reqLane = [q] ∧
          (t.port p).head = .offered ⟨.management, s.windows.generation⟩ ∧ t.mgmt = s.mgmt))

/-! ### The Window Table and the Lock Table -/

/-- The matching entry of a lookup is the lowest-indexed valid entry whose window contains the address; only the address
selects it, and with none the lookup answers NO_ROUTE (R47). -/
def Obligations.LookupTakesTheLowestWindow : Prop :=
  ∀ (bank : Bank) (a : Addr), ∃ contains : Fin 48 → Prop,
    (∀ i, contains i ↔ bank[i].valid = true ∧ bank[i].base.toNat ≤ a.toNat ∧
      a.toNat < bank[i].base.toNat + 2 ^ bank[i].exponent.toNat) ∧
    (∀ i, matchWindow bank a = some i ↔ contains i ∧ ∀ j, j < i → ¬ contains j) ∧
    (matchWindow bank a = none ↔ ∀ i, ¬ contains i) ∧
    (∀ (x : Port) (r : Request), r.addr = a → (∀ i, ¬ contains i) → lookup bank x r = .noRoute)

/-- The matching entry alone decides: NO_ROUTE when the span runs past its window, DENIED when it does not admit the origin
or the kind, and otherwise ROUTED to its destination with the translated address, at the same offset within the translated
window (R46, R48, R49, R50). -/
def Obligations.TheMatchingEntryDecides : Prop :=
  ∀ (bank : Bank) (x : Port) (r : Request) (i : Fin 48), matchWindow bank r.addr = some i →
    r.kind ≠ .directive → r.kind ≠ .note →
    ∃ (e : WindowEntry) (span bit : Nat), e = bank[i] ∧
      (r.kind = .claim ∨ r.kind = .release → span = 4 ∧ bit = 4) ∧
      (r.kind = .fetch → span = 4 * r.length.toNat ∧ bit = 0) ∧ (r.kind = .store → span = 4 * r.length.toNat ∧ bit = 1) ∧
      (r.kind = .storeC → span = 4 * r.length.toNat ∧ bit = 2) ∧ (r.kind = .swap → span = 4 * r.length.toNat ∧ bit = 3) ∧
      (e.base.toNat + 2 ^ e.exponent.toNat < r.addr.toNat + span → lookup bank x r = .noRoute) ∧
      (r.addr.toNat + span ≤ e.base.toNat + 2 ^ e.exponent.toNat →
        (e.origins.getLsbD x.val = false ∨ e.kinds.getLsbD bit = false → lookup bank x r = .denied i) ∧
        (e.origins.getLsbD x.val = true → e.kinds.getLsbD bit = true → entryPasses e = true →
          ∃ d out, lookup bank x r = .routed i d out ∧ d.val = e.dest.toNat ∧
            (e.translated = false → out = r.addr) ∧
            (e.translated = true → out.toNat = e.translatedBase.toNat + (r.addr.toNat - e.base.toNat))))

/-- A CLAIM renews the holder's lock, is answered HELD for another port's window and NO_LOCK when every record is held, and
otherwise takes the lowest-numbered FREE record, marking the waiting heads (R108). A RELEASE by the holder frees the record,
marking the waiting heads, and any other is answered NOT_HOLDER (R111). -/
def Obligations.LockTableDecidesClaimsAndReleases : Prop :=
  ∀ (x : Port) (i : Fin 48) (s : State), LockLaw s →
    (∀ (r : Fin 4) (l : Lock), s.locks[r] = some l → l.window = i → l.holder = x →
      decideClaim x i s = (.ok, setLock r (some ⟨i, x, s.settings.holdLimit⟩) s) ∧
      decideRelease x i s = (.ok, markForLocks (setLock r none s))) ∧
    (∀ (r : Fin 4) (l : Lock), s.locks[r] = some l → l.window = i → l.holder ≠ x →
      decideClaim x i s = (.held, s) ∧ decideRelease x i s = (.notHolder, s)) ∧
    ((∀ (r : Fin 4) (l : Lock), s.locks[r] = some l → l.window ≠ i) →
      decideRelease x i s = (.notHolder, s) ∧
      (∀ r : Fin 4, s.locks[r] = none → (∀ q : Fin 4, q < r → s.locks[q] ≠ none) →
        decideClaim x i s = (.ok, markForLocks (setLock r (some ⟨i, x, s.settings.holdLimit⟩) s))) ∧
      ((∀ r : Fin 4, s.locks[r] ≠ none) → decideClaim x i s = (.noLock, s)))

/-! ### Tracking entries, arbiters and Reply Queues -/

/-- An allocation request is answered TAG_IN_USE when an ACTIVE or REPLY_DUE entry holds the same origin and tag, otherwise no
entry when none is FREE or the origin is at its quota, and otherwise the lowest-indexed FREE entry (R89, R91). The origin's
count is of its entries in ACTIVE, ORPHANED and REPLY_DUE; a TOMBSTONE does not count (R91). -/
def Obligations.AllocationFollowsTheThreeChecks : Prop :=
  ∀ (x : Port) (tag : Tag) (s : State), ∃ inUse : Prop,
    (inUse ↔ ∃ (i : Fin 64) (e : TrackEntry), s.track[i] = some e ∧ e.origin = x ∧ e.tag = tag ∧
      e.state ≠ .orphaned ∧ e.state ≠ .tombstone) ∧
    (allocate s x tag = .tagInUse ↔ inUse) ∧
    (∀ i : Fin 64, allocate s x tag = .entry i ↔
      ¬ inUse ∧ s.track[i] = none ∧ (∀ j : Fin 64, j < i → s.track[j] ≠ none) ∧ originCount s x < s.settings.quota[x]) ∧
    (allocate s x tag = .noEntry ↔
      ¬ inUse ∧ ((∀ i : Fin 64, s.track[i] ≠ none) ∨ s.settings.quota[x] ≤ originCount s x)) ∧
    ∃ held : List (Fin 64), held.Nodup ∧
      (∀ i, i ∈ held ↔ ∃ e, s.track[i] = some e ∧ e.origin = x ∧
        ((∃ b, e.state = .active b) ∨ e.state = .orphaned ∨ ∃ st, e.state = .replyDue st)) ∧
      originCount s x = held.length

/-- An Output Arbiter sends the oldest reply first, taking a reply credit, writing the owed credits into its header and giving
out the slot it frees; with no reply it may send and no request it may grant, a CREDIT with the owed credits is sent while one
is owed (R15, R17, R78). That the CREDIT goes at once is log entry 7, and that a slot freed by the start itself is owed
afterwards log entry 8. A head or a reply that leaves its lane frees its slot, makes one credit owed, at most the lane's
capacity (log entry 11), and lets the parcel behind it become the head; nothing else changes (R13, R14, R17, R65). -/
def Obligations.RepliesGoFirst : Prop :=
  (∀ (x : Port) (s : State), ∃ owed : Credits, owed =
      ⟨BitVec.ofNat 4 (s.port x).owed.req, BitVec.ofNat 4 (s.port x).owed.rep⟩ ∧
    (∀ q rest, (s.port x).replyQueue = q :: rest → 0 < (s.port x).credits.rep →
      chooseNext x s = giveSlot x (s.modifyPort x fun r =>
        { r with tx := some ⟨.reply owed q.reply, q.tied⟩, owed := ⟨0, 0⟩, replyQueue := rest,
                 credits := { r.credits with rep := r.credits.rep - 1 } })) ∧
    ((s.port x).replyQueue = [] ∨ (s.port x).credits.rep = 0 →
      (s.port x).credits.req = 0 ∨ (∀ i, eligible s x i = false) →
      0 < (s.port x).owed.req ∨ 0 < (s.port x).owed.rep →
      chooseNext x s = s.modifyPort x fun r => { r with tx := some ⟨.credit owed, false⟩, owed := ⟨0, 0⟩ })) ∧
  (∀ (p : Port) (h : Request) (rest : List Request) (s : State), (s.port p).reqLane = h :: rest →
    popHead p s = s.modifyPort p fun r =>
      { r with reqLane := rest, head := if rest = [] then .empty else .unexamined, recheck := false,
               owed := ⟨min (r.owed.req + 1) 12, r.owed.rep⟩ }) ∧
  (∀ (p : Port) (q : Reply) (rest : List Reply) (s : State), (s.port p).repLane = q :: rest →
    popReply p s = s.modifyPort p fun r =>
      { r with repLane := rest, owed := ⟨r.owed.req, min (r.owed.rep + 1) 8⟩ })

/-- With no reply to send and a request credit, the first eligible input after the pointer is granted: a posted head at once,
a tracked head with the entry it is given, whose index is its tag. The header is rewritten as R31 gives, the head leaves its
lane and the pointer names the input; the inputs after a pointer follow it in cyclic order. A head whose tag is in use is
refused, and an alert note is granted as input M (R79, R80, R81, R90, R31, R74). After a refusal TAG_IN_USE the choice goes on
among the inputs that remain, of which the same is said, and with none eligible nothing more is done (R80). Two points on a
hairpin are the model's choice: the header carries the credits owed before the granted head frees its own slot (log entry 8),
and the candidates that remain after a refusal TAG_IN_USE are gone through before the refusal's reply is sent (log entry
21). -/
def Obligations.RequestsAreGrantedInTurn : Prop :=
  (∀ (k : Fin 7) (j : Fin 7), (cyclicAfter k)[j.val]? = some (k + 1 + j)) ∧
  (∀ (out : Port) (order : List (Fin 7)) (s : State), (∀ j ∈ order, eligible s out j = false) →
    tryInputs out order s = s) ∧
  (∀ (out : Port) (i : Fin 7) (before after : List (Fin 7)) (s chosen : State),
    chosen = tryInputs out (before ++ i :: after) s ∨
      (chosen = chooseNext out s ∧ ((s.port out).replyQueue = [] ∨ (s.port out).credits.rep = 0) ∧
        0 < (s.port out).credits.req ∧ cyclicAfter (s.port out).arbPointer = before ++ i :: after) →
    (∀ j ∈ before, eligible s out j = false) →
    ∃ begin_ : Request → State → State,
      (∀ r u, begin_ r u = u.modifyPort out fun q =>
        { q with tx := some ⟨.request ⟨BitVec.ofNat 4 q.owed.req, BitVec.ofNat 4 q.owed.rep⟩ r, false⟩,
                 owed := ⟨0, 0⟩, credits := { q.credits with req := q.credits.req - 1 }, arbPointer := i }) ∧
      (∀ (x : Port) (h : Request) (rest : List Request) (res : Resolution), x.val = i.val →
        (s.port x).reqLane = h :: rest → (s.port x).head = .offered res →
        (∀ w addr, h.kind = .store → res.route = .memory w out addr →
          chosen = popHead x (begin_ { h with addr := addr } s)) ∧
        (∀ n, h.kind = .note → res.route = .forward out n →
          chosen = popHead x (begin_ { h with hop := h.hop - 1#8 } s)) ∧
        (∀ w addr k j, (h.kind = .fetch ∧ k = .fetch w) ∨ (h.kind = .storeC ∧ k = .storeC w) ∨
            (h.kind = .swap ∧ k = .swap w) →
          res.route = .memory w out addr → allocate s x h.tag = .entry j →
          chosen =
            popHead x (begin_ { h with tag := BitVec.ofNat 8 j.val, addr := addr }
              (setEntry j (some { state := .active false, origin := x, tag := h.tag, dest := out, kind := k,
                                  generation := res.generation, time := s.settings.deadline[out] }) s))) ∧
        (∀ n j, h.kind = .directive → res.route = .forward out n → allocate s x h.tag = .entry j →
          chosen =
            popHead x (begin_ { h with tag := BitVec.ofNat 8 j.val, hop := h.hop - 1#8 }
              (setEntry j (some { state := .active false, origin := x, tag := h.tag, dest := out, kind := .directive n,
                                  generation := res.generation, time := s.settings.deadline[out] }) s))) ∧
        (eligible s out i = true → (trackKind h.kind res.route).isSome = true → res.route.output = some out →
          allocate s x h.tag = .tagInUse →
          chosen = tryInputs out after (offerAnswer x (some res) ⟨h.tag, 0x14#8, []⟩ s))) ∧
      (∀ q, i.val = 6 → s.alert.queued = some q → q.out = out → q.sending = false →
        chosen =
          begin_ q.note { s with alert := { s.alert with queued := some { q with sending := true } } }))

/-- A slot of a Reply Queue that the start of a transmission frees goes to the lowest-indexed REPLY_DUE entry of that origin,
whose reply is built and which becomes TOMBSTONE; otherwise to the first waiting claimant after the pointer, in the order
reply lanes L0 to L5, Dispatch Stage, Management Unit; otherwise it stays free (R84, R94, R98). The claimants that wait are
said last: a reply in hand for this queue, an answer built for the head, a directive reply that is held. -/
def Obligations.FreedSlotsAreGivenOutInOrder : Prop :=
  ∀ (x : Port) (s : State), ∃ due : Fin 64 → Prop,
    (∀ i, due i ↔ ∃ e st, s.track[i] = some e ∧ e.state = .replyDue st ∧ e.origin = x) ∧
    (∀ (i : Fin 64) (e : TrackEntry) (st : OwedStatus), due i → (∀ j, j < i → ¬ due j) → s.track[i] = some e →
      e.state = .replyDue st →
      giveSlot x s =
        setEntry i (some { e with state := .tombstone, time := s.settings.tombstone })
          (s.modifyPort x fun r =>
            { r with replyQueue := r.replyQueue ++
                [⟨⟨e.tag, if st = .timeout then 0x20#8 else 0x21#8, []⟩, false⟩] })) ∧
    ((∀ i, ¬ due i) →
      ∀ (c : Fin 8) (before after : List (Fin 8)), cyclicAfter (s.port x).queuePointer = before ++ c :: after →
        (∀ b ∈ before, claimantWaits x s b = false) →
        (∀ (p : Port) (r : Reply) (rest : List Reply) (i : Fin 64) (e : TrackEntry), p.val = c.val →
          (s.port p).repLane = r :: rest → r.tag.toNat = i.val → s.track[i] = some e → e.state = .active true →
          e.dest = p → e.origin = x →
          giveSlot x s = popReply p (setEntry i none (s.modifyPort x fun q =>
            { q with replyQueue := q.replyQueue ++ [⟨⟨e.tag, r.status, r.payload⟩, false⟩], queuePointer := c }))) ∧
        (∀ res reply, c.val = 6 → (s.port x).head = .answered res reply →
          giveSlot x s = popHead x (s.modifyPort x fun q =>
            { q with replyQueue := q.replyQueue ++ [⟨reply, false⟩], queuePointer := c })) ∧
        (∀ q, c.val = 7 → s.mgmt = .replyHeld x q →
          giveSlot x s =
            { (s.modifyPort x fun r => { r with replyQueue := r.replyQueue ++ [q], queuePointer := c })
              with mgmt := .idle })) ∧
    ((∀ i, ¬ due i) → (∀ c, claimantWaits x s c = false) → giveSlot x s = s) ∧
    (∀ k j : Fin 8, (cyclicAfter k)[j.val]? = some (k + 1 + j)) ∧
    (∀ (c : Fin 8) (p : Port), p.val = c.val → (claimantWaits x s c = true ↔
      ∃ (r : Reply) (rest : List Reply) (i : Fin 64) (e : TrackEntry), (s.port p).repLane = r :: rest ∧
        r.tag.toNat = i.val ∧ s.track[i] = some e ∧ e.state = .active true ∧ e.dest = p ∧ e.origin = x)) ∧
    (claimantWaits x s 6 = true ↔ ∃ res reply, (s.port x).head = .answered res reply) ∧
    (claimantWaits x s 7 = true ↔ ∃ q, s.mgmt = .replyHeld x q)

/-- The M arbiter grants the first candidate after its pointer to an IDLE Management Unit, which takes the directive and
enters EXECUTING (R82, R131); a reply that the unit has built joins its origin's queue when there is room, and the unit is
IDLE (R133, R84). -/
def Obligations.ManagementUnitTakesOneDirective : Prop :=
  (∀ (x : Port) (before after : List Port) (h : Request) (rest : List Request) (g : BitVec 16) (s : State),
    s.mgmt = .idle → cyclicAfter s.mPointer = before ++ x :: after →
    (∀ y ∈ before, ∀ k, (s.port y).head ≠ .offered ⟨.management, k⟩) →
    (s.port x).reqLane = h :: rest → (s.port x).head = .offered ⟨.management, g⟩ →
    grantM s = { popHead x s with mgmt := .executing ⟨x, h.tag, h.command, h.length, h.payload⟩, mPointer := x }) ∧
  (∀ s : State, s.mgmt ≠ .idle → grantM s = s) ∧
  (∀ (o : Port) (q : QueuedReply) (s : State), s.mgmt = .replyHeld o q →
    placeReply s =
      { (s.modifyPort o fun r => { r with replyQueue := r.replyQueue ++ [q], queuePointer := 7 }) with mgmt := .idle }) ∧
  (∀ (o : Port) (q : QueuedReply) (s : State), s.mgmt = .replyHeld o q →
    (replyPlaceable s = true ↔ (s.port o).link = .up ∧ (s.port o).replyQueue.length < 8))

/-! ### Faults and alerts -/

/-- A raised fault takes the next sequence number, which wraps, and the Time Base count. It is kept at the end of a list with
room; a full list keeps its oldest 32 records or drops the oldest for it, by the policy. A kept record drives FLT# low
(R168, R169, R170, R187). Beside these only the alert path may change, and it does not when nothing is kept (R177). -/
def Obligations.RaisedFaultsAreNumberedAndKept : Prop :=
  ∀ (r : FaultReport) (s : State), ∃ records flt alert,
    raiseFault r s =
      { s with faultList := ⟨records, s.faultList.nextSeq + 1#16, s.faultList.policy⟩, fltLow := flt, alert := alert } ∧
    (s.faultList.records.length < 32 →
      records = s.faultList.records ++ [⟨s.faultList.nextSeq, s.time, r⟩] ∧ flt = true) ∧
    (32 ≤ s.faultList.records.length → s.faultList.policy = .keepOldest →
      records = s.faultList.records ∧ flt = s.fltLow ∧ alert = s.alert) ∧
    (32 ≤ s.faultList.records.length → s.faultList.policy = .keepNewest →
      records = s.faultList.records.tail ++ [⟨s.faultList.nextSeq, s.time, r⟩] ∧ flt = true)

/-- A kept record raises an alert when the flag is armed and the alert node is set: the flag clears, and the alert joins one
that is pending, waits behind a queued note, or has its route checked. With a route that is UP the note of R42 is built with
the last sequence number given out and the count of records held, and queued; without one it stays pending (R177, R178, R42).
A record is kept in a list with room, and under KEEP_NEWEST in a full one too, whose count stays (R169). The route check by
itself is the last part: it acts on a pending alert with no queued note, and changes nothing else. -/
def Obligations.KeptRecordsRaiseAlerts : Prop :=
  (∀ (r : FaultReport) (s : State), s.faultList.records.length < 32 ∨ s.faultList.policy = .keepNewest →
    (s.alert.armed = false ∨ s.settings.alertNode = none → (raiseFault r s).alert = s.alert) ∧
    (∀ n, s.alert.armed = true → s.settings.alertNode = some n →
      (s.alert.pending = true ∨ s.alert.queued ≠ none →
        (raiseFault r s).alert = { armed := false, pending := true, queued := s.alert.queued }) ∧
      (s.alert.pending = false → s.alert.queued = none →
        (∀ p, s.nodeTable[n] = .port p → (s.port p).link = .up →
          (raiseFault r s).alert =
            { armed := false, pending := false
              queued := some ⟨p, { kind := .note, tag := 0#8, length := 2#5, addr := 0#48,
                                   target := BitVec.ofNat 8 n.val, source := BitVec.ofNat 8 s.node.val, hop := 15#8,
                                   command := 0#8,
                                   payload := [s.faultList.nextSeq.setWidth 32,
                                               BitVec.ofNat 32 (if s.faultList.records.length < 32
                                                 then s.faultList.records.length + 1
                                                 else s.faultList.records.length)] }, false⟩ }) ∧
        ((∀ p, s.nodeTable[n] = .port p → (s.port p).link ≠ .up) →
          (raiseFault r s).alert = { armed := false, pending := true, queued := none })))) ∧
  (∀ s : State, ∃ waits : Prop, (waits ↔ s.alert.pending = true ∧ s.alert.queued = none) ∧
    (∀ (n : Node) (p : Port), waits → s.settings.alertNode = some n → s.nodeTable[n] = .port p → (s.port p).link = .up →
      routeCheck s =
        { s with alert :=
          { armed := s.alert.armed, pending := false
            queued := some ⟨p, { kind := .note, tag := 0#8, length := 2#5, addr := 0#48,
                                 target := BitVec.ofNat 8 n.val, source := BitVec.ofNat 8 s.node.val, hop := 15#8,
                                 command := 0#8,
                                 payload := [(s.faultList.nextSeq - 1#16).setWidth 32,
                                             BitVec.ofNat 32 s.faultList.records.length] }, false⟩ } }) ∧
    (¬ waits ∨ (∀ (n : Node) (p : Port), s.settings.alertNode = some n → s.nodeTable[n] = .port p →
        (s.port p).link ≠ .up) → routeCheck s = s))

/-! ### Directives: acceptance and authority -/

/-- Executing a read-only command builds a reply and changes no other state, whatever port it came from and whatever its
arguments (R139, R132, R133). -/
def Obligations.ReadOnlyDirectivesChangeNothing : Prop :=
  ∀ (c : Command) (d : Directive) (s : State), c.readOnly = true → Executing c d s →
    ∃ st payload, exec c.row s = .next (settle (withReply d st payload s))

/-- Executing a modifying command from a port other than the manager port, or with the manager port unset from a port that is
HALTED, is answered NOT_MANAGER with no payload, and changes no other state (R132, R141, R142). -/
def Obligations.OthersThanTheManagerAreRefused : Prop :=
  ∀ (c : Command) (d : Directive) (s : State), c.readOnly = false → Executing c d s →
    ((∃ m, s.manager = some m ∧ m ≠ d.origin) ∨ (s.manager = none ∧ (s.port d.origin).link = .halted)) →
    exec c.row s = .next (settle (withReply d .notManager [] s))

/-- An unknown command code is answered BAD_COMMAND, from any port; a directive that passes the authority check with a wrong
argument count is answered BAD_ARGUMENT. Neither changes other state or claims the manager port. A directive row whose code
the Management Unit is not executing has no event (R131, R132, R141; the last is log entry 3). The codes, counts and classes
are those of the table of R34, the status codes those of R33, and the detail codes of malformed heads those of R39. -/
def Obligations.WrongCodeOrCountChangesNothing : Prop :=
  (∀ (d : Directive) (s : State), s.resetLow = false → s.mgmt = .executing d → (∀ c : Command, d.command ≠ c.code) →
    exec .unknownCommand s = .next (settle (withReply d .badCommand [] s))) ∧
  (∀ (c : Command) (d : Directive) (s : State), Executing c d s → c.readOnly = true ∨ Authorised d s →
    d.length.toNat ≠ c.argCount → exec c.row s = .next (settle (withReply d .badArgument [] s))) ∧
  (∀ (c : Command) (s : State), (∀ d, s.mgmt = .executing d → d.command ≠ c.code) → exec c.row s = .next s) ∧
  (∀ row ∈ [(Command.identify, 0x01#8, 0, true), (.portStatus, 0x02#8, 1, true), (.portEnable, 0x03#8, 1, false),
      (.portDisable, 0x04#8, 1, false), (.portRestart, 0x05#8, 1, false), (.fence, 0x06#8, 1, false),
      (.unfence, 0x07#8, 1, false), (.setQuota, 0x08#8, 2, false), (.setDeadline, 0x09#8, 2, false),
      (.setTombstone, 0x0A#8, 1, false), (.setLockLimit, 0x0B#8, 1, false), (.resetRouter, 0x0F#8, 0, false),
      (.tableWrite, 0x10#8, 5, false), (.tableRead, 0x11#8, 2, true), (.tableClear, 0x12#8, 0, false),
      (.commit, 0x13#8, 0, false), (.discard, 0x14#8, 0, false), (.trackRead, 0x20#8, 1, true),
      (.lockRead, 0x28#8, 0, true), (.breakLock, 0x29#8, 1, false), (.nodeSet, 0x30#8, 2, false),
      (.nodeRead, 0x31#8, 0, true), (.setNode, 0x32#8, 1, false), (.setManager, 0x33#8, 1, false),
      (.faultRead, 0x40#8, 1, true), (.faultPop, 0x41#8, 2, false), (.faultPolicy, 0x42#8, 1, false),
      (.alertSet, 0x43#8, 1, false), (.alertArm, 0x44#8, 0, false)],
    row.1.code = row.2.1 ∧ row.1.argCount = row.2.2.1 ∧ row.1.readOnly = row.2.2.2) ∧
  (∀ row ∈ [(Status.ok, 0x00#8), (.noRoute, 0x10#8), (.denied, 0x11#8), (.noLink, 0x12#8), (.fenced, 0x13#8),
      (.tagInUse, 0x14#8), (.hopLimit, 0x15#8), (.malformed, 0x16#8), (.timeout, 0x20#8), (.linkLost, 0x21#8),
      (.held, 0x28#8), (.noLock, 0x29#8), (.notHolder, 0x2A#8), (.badCommand, 0x30#8), (.badArgument, 0x31#8),
      (.notManager, 0x32#8), (.invalidEntry, 0x33#8), (.lockConflict, 0x34#8)], row.1.code = row.2) ∧
  (∀ row ∈ [(Malformation.length, 2#8), (.align, 3#8), (.node, 4#8), (.hop, 5#8)], row.1.code = row.2)

/-- An argument word outside its range, an own-node argument of NODE_SET or ALERT_SET, a HALTED port of SET_MANAGER, and a
FAULT_POP whose first sequence is not the oldest record's are answered BAD_ARGUMENT, and nothing else changes (R35, R55, R56,
R104, R118, R124, R126, R143, R172, R173, R175, R180). -/
def Obligations.BadArgumentsChangeNothing : Prop :=
  ∀ (c : Command) (d : Directive) (s : State), Accepted c d s →
    (∃ w rest, d.args = w :: rest ∧ d.args.length = c.argCount ∧
      ((5 < w.toNat ∧ (c = .portStatus ∨ c = .portEnable ∨ c = .portDisable ∨ c = .portRestart ∨ c = .fence ∨
          c = .unfence ∨ c = .setQuota ∨ c = .setDeadline ∨ c = .setManager)) ∨
       ((w.toNat < 10 ∨ 65535 < w.toNat) ∧ (c = .setTombstone ∨ c = .setLockLimit)) ∨
       (47 < w.toNat ∧ c = .tableWrite) ∨ (1 < w.toNat ∧ (c = .tableRead ∨ c = .faultPolicy)) ∨
       (63 < w.toNat ∧ c = .trackRead) ∨ (3 < w.toNat ∧ c = .breakLock) ∨
       (31 < w.toNat ∧ (c = .nodeSet ∨ c = .setNode)) ∨ (w.toNat = s.node.val ∧ (c = .nodeSet ∨ c = .alertSet)) ∨
       (31 < w.toNat ∧ w ≠ 0xFFFFFFFF#32 ∧ c = .alertSet) ∨ ((w.toNat = 0 ∨ 4 < w.toNat) ∧ c = .faultRead) ∨
       ((w.toNat = 0 ∨ 32 < w.toNat) ∧ c = .faultPop) ∨
       (∃ p : Port, w.toNat = p.val ∧ (s.port p).link = .halted ∧ c = .setManager) ∨
       (∃ v, rest = [v] ∧
         ((c = .setQuota ∧ (v.toNat = 0 ∨ 64 < v.toNat)) ∨ (c = .setDeadline ∧ (v.toNat < 10 ∨ 65535 < v.toNat)) ∨
          (c = .tableRead ∧ 47 < v.toNat) ∨ (c = .nodeSet ∧ 5 < v.toNat ∧ v ≠ 0xFFFFFFFF#32) ∨
          (c = .faultPop ∧ ∀ f, s.faultList.records.head? = some f → f.seq.toNat ≠ v.toNat))) ∨
       (∃ w1 w2 w3 w4, rest = [w1, w2, w3, w4] ∧ c = .tableWrite ∧
         (w1.extractLsb' 22 2 ≠ 0#2 ∨ w1.extractLsb' 13 3 ≠ 0#3 ∨ w1.extractLsb' 3 5 ≠ 0#5)))) →
    exec c.row s = .next (settle (withReply d .badArgument [] s))

/-! ### Directives: reading -/

/-- IDENTIFY returns the three words of R41, and PORT_STATUS the four words of R37, field by field. -/
def Obligations.IdentifyAndPortStatusReport : Prop :=
  (∀ (d : Directive) (s : State), Accepted .identify d s → d.args = [] →
    ∃ w2 w3 : Word,
      exec .identify s = .next (settle (withReply d .ok [0x3C5A0106#32, w2, w3] s)) ∧
      w2.extractLsb' 28 4 = 1#4 ∧ w2.extractLsb' 24 4 = 0#4 ∧
      w2.extractLsb' 16 8 = BitVec.ofNat 8 s.faultList.records.length ∧ w2.extractLsb' 11 5 = 0#5 ∧
      (∀ p, s.manager = some p → w2.extractLsb' 8 3 = BitVec.ofNat 3 p.val) ∧
      (s.manager = none → w2.extractLsb' 8 3 = 7#3) ∧ w2.extractLsb' 5 3 = 0#3 ∧
      w2.extractLsb' 0 5 = BitVec.ofNat 5 s.node.val ∧ w3 = s.windows.generation.setWidth 32) ∧
  (∀ (p : Port) (w : Word) (d : Directive) (s : State), Accepted .portStatus d s → d.args = [w] → w.toNat = p.val →
    ∃ (w1 w2 w3 w4 : Word) (r : PortRec), r = s.port p ∧
      exec .portStatus s = .next (settle (withReply d .ok [w1, w2, w3, w4] s)) ∧
      (w1.getLsbD 31 = false ∧ w1.extractLsb' 24 7 = BitVec.ofNat 7 (originCount s p) ∧
        w1.getLsbD 23 = r.peerNode.isSome ∧ w1.extractLsb' 21 2 = 0#2 ∧
        w1.extractLsb' 16 5 = BitVec.ofNat 5 ((r.peerNode.map Fin.val).getD 0) ∧ w1.extractLsb' 14 2 = 0#2 ∧
        (w1.getLsbD 13 = true ↔ s.manager = some p) ∧ w1.getLsbD 12 = r.fenced ∧ w1.getLsbD 11 = r.seen ∧
        w1.getLsbD 10 = r.heard ∧
        (r.link = .off → w1.extractLsb' 8 2 = 0#2) ∧ (r.link = .training → w1.extractLsb' 8 2 = 1#2) ∧
        (r.link = .up → w1.extractLsb' 8 2 = 2#2) ∧ (r.link = .halted → w1.extractLsb' 8 2 = 3#2) ∧
        w1.getLsbD 7 = false ∧ w1.extractLsb' 4 3 = BitVec.ofNat 3 r.attempts ∧ w1.getLsbD 3 = false ∧
        w1.extractLsb' 0 3 = BitVec.ofNat 3 p.val) ∧
      (w2.extractLsb' 28 4 = 0#4 ∧ w2.extractLsb' 24 4 = BitVec.ofNat 4 r.replyQueue.length ∧
        w2.extractLsb' 20 4 = BitVec.ofNat 4 r.repLane.length ∧ w2.extractLsb' 16 4 = BitVec.ofNat 4 r.reqLane.length ∧
        w2.extractLsb' 12 4 = BitVec.ofNat 4 r.owed.rep ∧ w2.extractLsb' 8 4 = BitVec.ofNat 4 r.owed.req ∧
        w2.extractLsb' 4 4 = BitVec.ofNat 4 r.credits.rep ∧ w2.extractLsb' 0 4 = BitVec.ofNat 4 r.credits.req) ∧
      (w3.extractLsb' 16 16 = BitVec.ofNat 16 r.fencedDrops ∧ w3.extractLsb' 9 7 = 0#7 ∧
        w3.getLsbD 8 = r.offers.isSome ∧ w3.extractLsb' 4 4 = BitVec.ofNat 4 ((r.offers.map LanePair.rep).getD 0) ∧
        w3.extractLsb' 0 4 = BitVec.ofNat 4 ((r.offers.map LanePair.req).getD 0)) ∧
      (w4.extractLsb' 23 9 = 0#9 ∧ w4.extractLsb' 16 7 = BitVec.ofNat 7 s.settings.quota[p] ∧
        w4.extractLsb' 0 16 = BitVec.ofNat 16 s.settings.deadline[p]))

/-- TABLE_READ returns an entry of either bank as its four words (R56, R36), TRACK_READ an entry's two words (R104, R38),
LOCK_READ and NODE_READ four words each (R121, R125, R39), and FAULT_READ the oldest records, as many as are asked for and held,
four words each, field by field, with a field that is not present and every unlisted bit 0 (R172, R40). -/
def Obligations.TablesAreReadAsTheyStand : Prop :=
  (∀ (b i : Word) (k : Fin 48) (d : Directive) (s : State), Accepted .tableRead d s → d.args = [b, i] →
    i.toNat = k.val →
    (b = 0#32 → exec .tableRead s = .next (settle (withReply d .ok (entryWords s.windows.active[k]) s))) ∧
    (b = 1#32 → exec .tableRead s = .next (settle (withReply d .ok (entryWords s.windows.staging[k]) s)))) ∧
  (∀ (w : Word) (i : Fin 64) (d : Directive) (s : State), Accepted .trackRead d s → d.args = [w] → w.toNat = i.val →
    (s.track[i] = none → exec .trackRead s = .next (settle (withReply d .ok [0#32, 0#32] s))) ∧
    (∀ e, s.track[i] = some e →
      ∃ w1 w2 : Word, exec .trackRead s = .next (settle (withReply d .ok [w1, w2] s)) ∧
        w1.extractLsb' 30 2 = 0#2 ∧ w1.extractLsb' 16 8 = e.tag ∧
        (∀ k, e.kind = .fetch k → w1.extractLsb' 24 6 = BitVec.ofNat 6 k.val ∧ w1.extractLsb' 12 2 = 0#2) ∧
        (∀ k, e.kind = .storeC k → w1.extractLsb' 24 6 = BitVec.ofNat 6 k.val ∧ w1.extractLsb' 12 2 = 1#2) ∧
        (∀ k, e.kind = .swap k → w1.extractLsb' 24 6 = BitVec.ofNat 6 k.val ∧ w1.extractLsb' 12 2 = 2#2) ∧
        (∀ n, e.kind = .directive n → w1.extractLsb' 24 6 = BitVec.ofNat 6 n.val ∧ w1.extractLsb' 12 2 = 3#2) ∧
        (∀ b, e.state = .active b → w1.extractLsb' 14 2 = 0#2 ∧ w1.extractLsb' 0 3 = 1#3) ∧
        (e.state = .orphaned → w1.extractLsb' 14 2 = 0#2 ∧ w1.extractLsb' 0 3 = 2#3) ∧
        (e.state = .replyDue .timeout → w1.extractLsb' 14 2 = 2#2 ∧ w1.extractLsb' 0 3 = 3#3) ∧
        (e.state = .replyDue .linkLost → w1.extractLsb' 14 2 = 3#2 ∧ w1.extractLsb' 0 3 = 3#3) ∧
        (e.state = .tombstone → w1.extractLsb' 14 2 = 0#2 ∧ w1.extractLsb' 0 3 = 4#3) ∧
        w1.getLsbD 11 = false ∧ w1.extractLsb' 8 3 = BitVec.ofNat 3 e.dest.val ∧ w1.getLsbD 7 = false ∧
        w1.extractLsb' 4 3 = BitVec.ofNat 3 e.origin.val ∧ w1.getLsbD 3 = false ∧
        w2.extractLsb' 16 16 = e.generation ∧ w2.extractLsb' 0 16 = BitVec.ofNat 16 e.time)) ∧
  (∀ (d : Directive) (s : State), Accepted .lockRead d s → d.args = [] →
    ∃ word : Fin 4 → Word,
      exec .lockRead s = .next (settle (withReply d .ok [word 0, word 1, word 2, word 3] s)) ∧
      ∀ r : Fin 4, (s.locks[r] = none → word r = 0#32) ∧
        (∀ l, s.locks[r] = some l → (word r).getLsbD 31 = true ∧ (word r).extractLsb' 27 4 = 0#4 ∧
          (word r).extractLsb' 24 3 = BitVec.ofNat 3 l.holder.val ∧ (word r).extractLsb' 22 2 = 0#2 ∧
          (word r).extractLsb' 16 6 = BitVec.ofNat 6 l.window.val ∧
          (word r).extractLsb' 0 16 = BitVec.ofNat 16 l.hold)) ∧
  (∀ (d : Directive) (s : State), Accepted .nodeRead d s → d.args = [] →
    ∃ word : Fin 4 → Word,
      exec .nodeRead s = .next (settle (withReply d .ok [word 0, word 1, word 2, word 3] s)) ∧
      ∀ (k : Fin 4) (i : Fin 8) (n : Node), n.val = 8 * k.val + i.val →
        (∀ p, s.nodeTable[n] = .port p → (word k).extractLsb' (4 * i.val) 4 = BitVec.ofNat 4 p.val) ∧
        (s.nodeTable[n] = .self → (word k).extractLsb' (4 * i.val) 4 = 0xE#4) ∧
        (s.nodeTable[n] = .unreachable → (word k).extractLsb' (4 * i.val) 4 = 0xF#4)) ∧
  (∀ (w : Word) (d : Directive) (s : State), Accepted .faultRead d s → d.args = [w] → 1 ≤ w.toNat → w.toNat ≤ 4 →
    ∃ word : FaultRecord → Fin 4 → Word,
      exec .faultRead s =
        .next (settle (withReply d .ok
          ((s.faultList.records.take w.toNat).flatMap fun f => [word f 0, word f 1, word f 2, word f 3]) s)) ∧
      ∀ f : FaultRecord,
        (word f 0).extractLsb' 16 16 = f.seq ∧ (word f 1) = f.stamp ∧
        (∀ k code, (k, code) ∈ [(FaultKind.linkCheck, 1#5), (.linkLost, 2#5), (.linkHalted, 3#5), (.overrun, 4#5),
            (.malformed, 5#5), (.noRoute, 6#5), (.denied, 7#5), (.noLink, 8#5), (.hopLimit, 9#5), (.replyTimeout, 10#5),
            (.lateReply, 11#5), (.strayReply, 12#5), (.lockBroken, 13#5), (.managerLost, 14#5), (.unhandledNote, 15#5),
            (.warmReset, 16#5)] → f.report.kind = k → (word f 0).extractLsb' 11 5 = code) ∧
        (word f 0).getLsbD 10 = f.report.detail.isSome ∧ (word f 0).getLsbD 9 = f.report.index.isSome ∧
        (word f 0).getLsbD 8 = f.report.addr.isSome ∧ (word f 0).getLsbD 7 = f.report.tag.isSome ∧
        (word f 0).getLsbD 6 = f.report.port.isSome ∧ (word f 0).extractLsb' 3 3 = 0#3 ∧
        (∀ p, f.report.port = some p → (word f 0).extractLsb' 0 3 = BitVec.ofNat 3 p.val) ∧
        (f.report.port = none → (word f 0).extractLsb' 0 3 = 0#3) ∧
        (word f 2).extractLsb' 8 8 = f.report.tag.getD 0#8 ∧ (word f 2).extractLsb' 2 6 = f.report.index.getD 0#6 ∧
        (word f 2).extractLsb' 0 2 = 0#2 ∧
        (∀ a, f.report.addr = some a →
          (word f 2).extractLsb' 16 16 = a.extractLsb' 32 16 ∧ word f 3 = a.extractLsb' 0 32) ∧
        (f.report.addr = none →
          (word f 2).extractLsb' 16 16 = 0#16 ∧ (word f 3).extractLsb' 8 24 = 0#24 ∧
          (word f 3).extractLsb' 0 8 = f.report.detail.getD 0#8))

/-! ### Directives: ports and settings -/

/-- PORT_ENABLE takes a port that is OFF or HALTED into TRAINING with its first attempt begun, and changes nothing in TRAINING
or UP (R148, R9, R3). FENCE sets a clear flag, breaks the locks of the port with detail FENCE and marks its waiting head, and
when it broke one the waiting heads of the other ports; it changes nothing when the flag is set (R152, R23, R66, R113, R117).
UNFENCE clears the flag and nothing else (R153). -/
def Obligations.PortDirectivesActAtOnce : Prop :=
  ∀ (p : Port) (w : Word) (d : Directive) (s : State), d.args = [w] → w.toNat = p.val →
    (Accepted .portEnable d s →
      ((s.port p).link = .training ∨ (s.port p).link = .up →
        exec .portEnable s = .next (settle (withReply d .ok [] (claimedBy d s)))) ∧
      ((s.port p).link = .off ∨ (s.port p).link = .halted → (s.port p).tx = none →
        exec .portEnable s =
          .next (settle (withReply d .ok [] ((claimedBy d s).modifyPort p fun r =>
            { r with link := .training, attempts := 0, heard := false, seen := false, helloTimer := some 10,
                     attemptTimer := some 200, tx := some ⟨.hello s.node 12#8 8#8 false, false⟩ }))))) ∧
    (Accepted .fence d s →
      ((s.port p).fenced = true → exec .fence s = .next (settle (withReply d .ok [] (claimedBy d s)))) ∧
      ((s.port p).fenced = false →
        ∃ u, u = markHeads (fun q _ => q == p) (breakHeldBy p .fence
            ((claimedBy d s).modifyPort p fun r => { r with fenced := true })) ∧
          exec .fence s = .next (settle (withReply d .ok [] u)) ∧ (u.port p).fenced = true ∧ LocksFreed p s u ∧
          ∀ q, (u.port q).recheck = true ↔
            (s.port q).recheck = true ∨ (HeadWaits (s.port q) ∧ (q = p ∨ HoldsLock p s)))) ∧
    (Accepted .unfence d s →
      exec .unfence s =
        .next (settle (withReply d .ok [] ((claimedBy d s).modifyPort p fun r => { r with fenced := false }))))

/-- SET_QUOTA, SET_DEADLINE, SET_TOMBSTONE and SET_LOCK_LIMIT set their value and are answered OK; no entry, record or timer
that is under way changes (R154, R155, R156, R145). -/
def Obligations.SettingsAreSetAtOnce : Prop :=
  (∀ (p : Port) (w q : Word) (d : Directive) (s : State), Accepted .setQuota d s → d.args = [w, q] →
    w.toNat = p.val → 1 ≤ q.toNat → q.toNat ≤ 64 →
    exec .setQuota s =
      .next (settle (withReply d .ok []
        { claimedBy d s with settings := { s.settings with quota := s.settings.quota.set p q.toNat } }))) ∧
  (∀ (p : Port) (w q : Word) (d : Directive) (s : State), Accepted .setDeadline d s → d.args = [w, q] →
    w.toNat = p.val → 10 ≤ q.toNat → q.toNat ≤ 65535 →
    exec .setDeadline s =
      .next (settle (withReply d .ok []
        { claimedBy d s with settings := { s.settings with deadline := s.settings.deadline.set p q.toNat } }))) ∧
  (∀ (w : Word) (d : Directive) (s : State), Accepted .setTombstone d s → d.args = [w] →
    10 ≤ w.toNat → w.toNat ≤ 65535 →
    exec .setTombstone s =
      .next (settle (withReply d .ok []
        { claimedBy d s with settings := { s.settings with tombstone := w.toNat } }))) ∧
  (∀ (w : Word) (d : Directive) (s : State), Accepted .setLockLimit d s → d.args = [w] →
    10 ≤ w.toNat → w.toNat ≤ 65535 →
    exec .setLockLimit s =
      .next (settle (withReply d .ok []
        { claimedBy d s with settings := { s.settings with holdLimit := w.toNat } })))

/-- PORT_DISABLE, PORT_RESTART, RESET_ROUTER and SET_NODE are answered OK and recorded at the tail of the pending actions with
their reply, and nothing else changes at execution (R135, R149, R150, R157, R126). With an origin that is not UP the reply is
discarded and the action takes effect at once (R137). -/
def Obligations.DeferredDirectivesWaitForTheirReply : Prop :=
  ∀ (c : Command) (k : ActionKind) (d : Directive) (s : State), Accepted c d s →
    ((∃ p w, d.args = [w] ∧ w.toNat = p.val ∧ ((c = .portDisable ∧ k = .disable p) ∨ (c = .portRestart ∧ k = .restart p))) ∨
      (d.args = [] ∧ c = .resetRouter ∧ k = .resetRouter) ∨
      (∃ n w, d.args = [w] ∧ w.toNat = n.val ∧ c = .setNode ∧ k = .setNode n)) →
    ((s.port d.origin).link = .up →
      exec c.row s =
        .next (settle { claimedBy d s with mgmt := .replyHeld d.origin ⟨⟨d.tag, 0x00#8, []⟩, true⟩
                                           actions := s.actions ++ [⟨k, d.origin⟩] })) ∧
    ((s.port d.origin).link ≠ .up →
      exec c.row s = .next (settle (takeActions [⟨k, d.origin⟩] { claimedBy d s with mgmt := .idle })))

/-! ### Directives: tables -/

/-- TABLE_WRITE replaces one Staging entry by the entry that the four words describe (R55, R36), TABLE_CLEAR makes every
Staging entry 0 (R57), and DISCARD copies the Active bank into the Staging bank (R58). -/
def Obligations.StagingDirectivesEditTheStagingBank : Prop :=
  (∀ (i w1 w2 w3 w4 : Word) (k : Fin 48) (d : Directive) (s : State), Accepted .tableWrite d s →
    d.args = [i, w1, w2, w3, w4] → i.toNat = k.val → w1.extractLsb' 22 2 = 0#2 → w1.extractLsb' 13 3 = 0#3 →
    w1.extractLsb' 3 5 = 0#5 →
    ∃ e : WindowEntry,
      exec .tableWrite s =
        .next (settle (withReply d .ok []
          { claimedBy d s with windows := { s.windows with staging := s.windows.staging.set k e } })) ∧
      e.valid = w1.getLsbD 31 ∧ e.translated = w1.getLsbD 30 ∧ e.exponent = w1.extractLsb' 24 6 ∧
      e.origins = w1.extractLsb' 16 6 ∧ e.kinds = w1.extractLsb' 8 5 ∧ e.dest = w1.extractLsb' 0 3 ∧
      e.translatedBase = w2.extractLsb' 16 16 ++ w4 ∧ e.base = w2.extractLsb' 0 16 ++ w3) ∧
  (∀ (d : Directive) (s : State), Accepted .tableClear d s → d.args = [] →
    ∃ bank : Bank,
      exec .tableClear s =
        .next (settle (withReply d .ok [] { claimedBy d s with windows := { s.windows with staging := bank } })) ∧
      ∀ i : Fin 48, entryWords bank[i] = [0#32, 0#32, 0#32, 0#32]) ∧
  (∀ (d : Directive) (s : State), Accepted .discard d s → d.args = [] →
    exec .discard s =
      .next (settle (withReply d .ok []
        { claimedBy d s with windows := { s.windows with staging := s.windows.active } })))

/-- COMMIT validates every valid Staging entry by the conditions of R60, then compares the entries of locked windows (R61). The
first check that fails answers with the lowest index at fault and changes no table; otherwise the Staging bank is copied to
the Active bank and the generation advances, wrapping (R59, R62, R54). The manager port is claimed in every case (R141). -/
def Obligations.CommitValidatesThenCopies : Prop :=
  ∀ (d : Directive) (s : State), Accepted .commit d s → d.args = [] →
    ∃ fails conflicts : Fin 48 → Prop,
      (∀ i, fails i ↔ s.windows.staging[i].valid = true ∧
        ¬ ((12 ≤ s.windows.staging[i].exponent.toNat ∧ s.windows.staging[i].exponent.toNat ≤ 47) ∧
          (s.windows.staging[i].base.toNat % 2 ^ s.windows.staging[i].exponent.toNat = 0 ∧
            s.windows.staging[i].base.toNat + 2 ^ s.windows.staging[i].exponent.toNat ≤ 2 ^ 48) ∧
          (s.windows.staging[i].translated = false ∨
            s.windows.staging[i].translatedBase.toNat % 2 ^ s.windows.staging[i].exponent.toNat = 0 ∧
            s.windows.staging[i].translatedBase.toNat + 2 ^ s.windows.staging[i].exponent.toNat ≤ 2 ^ 48) ∧
          s.windows.staging[i].dest.toNat ≤ 5 ∧ s.windows.staging[i].origins ≠ 0#6 ∧
          s.windows.staging[i].kinds ≠ 0#5)) ∧
      (∀ i, conflicts i ↔ (∃ (r : Fin 4) (l : Lock), s.locks[r] = some l ∧ l.window = i) ∧
        s.windows.staging[i] ≠ s.windows.active[i]) ∧
      (∀ i, fails i → (∀ j, j < i → ¬ fails j) →
        exec .commit s = .next (settle (withReply d .invalidEntry [BitVec.ofNat 32 i.val] (claimedBy d s)))) ∧
      (∀ i, (∀ j, ¬ fails j) → conflicts i → (∀ j, j < i → ¬ conflicts j) →
        exec .commit s = .next (settle (withReply d .lockConflict [BitVec.ofNat 32 i.val] (claimedBy d s)))) ∧
      ((∀ j, ¬ fails j) → (∀ j, ¬ conflicts j) →
        exec .commit s =
          .next (settle (withReply d .ok [(s.windows.generation + 1#16).setWidth 32]
            { claimedBy d s with windows := ⟨s.windows.staging, s.windows.staging, s.windows.generation + 1#16⟩ })))

/-- BREAK_LOCK breaks a held record with detail DIRECTIVE and its fault, and changes nothing for a FREE one (R118, R115).
NODE_SET writes an entry of the Node Table, with the route check when it changes (R124, R123). SET_MANAGER sets the manager
port (R143). -/
def Obligations.LockNodeAndManagerDirectives : Prop :=
  (∀ (w : Word) (r : Fin 4) (d : Directive) (s : State), Accepted .breakLock d s → d.args = [w] → w.toNat = r.val →
    (s.locks[r] = none → exec .breakLock s = .next (settle (withReply d .ok [] (claimedBy d s)))) ∧
    (∀ l, s.locks[r] = some l →
      exec .breakLock s =
        .next (settle (withReply d .ok [] (markForLocks (raiseFault
          { kind := .lockBroken, port := some l.holder, index := some (BitVec.ofNat 6 l.window.val), detail := some 4#8 }
          (setLock r none (claimedBy d s)))))))) ∧
  (∀ (w v : Word) (n : Node) (e : NodeEntry) (d : Directive) (s : State), Accepted .nodeSet d s → d.args = [w, v] →
    w.toNat = n.val → n ≠ s.node →
    (v = 0xFFFFFFFF#32 ∧ e = .unreachable ∨ ∃ p : Port, v.toNat = p.val ∧ e = .port p) →
    (s.nodeTable[n] = e → exec .nodeSet s = .next (settle (withReply d .ok [] (claimedBy d s)))) ∧
    (s.nodeTable[n] ≠ e →
      exec .nodeSet s =
        .next (settle (withReply d .ok []
          (routeCheck { claimedBy d s with nodeTable := s.nodeTable.set n e }))))) ∧
  (∀ (w : Word) (p : Port) (d : Directive) (s : State), Accepted .setManager d s → d.args = [w] → w.toNat = p.val →
    (s.port p).link ≠ .halted →
    exec .setManager s = .next (settle (withReply d .ok [] { s with manager := some p })))

/-- FAULT_POP with the sequence of the oldest record removes the oldest records, and FLT# is released when none is left (R173,
R170). FAULT_POLICY sets the policy and nothing else (R175). ALERT_SET to none discards a pending alert; to another node it
has the route of a pending alert checked; to the node held it changes nothing (R180). ALERT_ARM sets the armed flag, and
raises an alert at once when records are held and the alert node is set, which clears the flag again (R181, R177). That
ALERT_SET to none discards a pending alert where the node is none already too is the model's choice, log entry 20. -/
def Obligations.FaultAndAlertDirectives : Prop :=
  (∀ (c q : Word) (f : FaultRecord) (rest : List FaultRecord) (d : Directive) (s : State), Accepted .faultPop d s →
    d.args = [c, q] → 1 ≤ c.toNat → c.toNat ≤ 32 → s.faultList.records = f :: rest → f.seq.toNat = q.toNat →
    s.fltLow = true →
    exec .faultPop s =
      .next (settle (withReply d .ok []
        { claimedBy d s with
          faultList := { s.faultList with records := s.faultList.records.drop c.toNat }
          fltLow := decide (c.toNat < s.faultList.records.length) }))) ∧
  (∀ (w : Word) (p : Policy) (d : Directive) (s : State), Accepted .faultPolicy d s → d.args = [w] →
    (w = 0#32 ∧ p = .keepOldest ∨ w = 1#32 ∧ p = .keepNewest) →
    exec .faultPolicy s =
      .next (settle (withReply d .ok [] { claimedBy d s with faultList := { s.faultList with policy := p } }))) ∧
  (∀ (w : Word) (d : Directive) (s : State), Accepted .alertSet d s → d.args = [w] →
    (w = 0xFFFFFFFF#32 →
      exec .alertSet s =
        .next (settle (withReply d .ok []
          { claimedBy d s with settings := { s.settings with alertNode := none },
                               alert := { s.alert with pending := false } }))) ∧
    (∀ n : Node, w.toNat = n.val → n ≠ s.node →
      (s.settings.alertNode = some n → exec .alertSet s = .next (settle (withReply d .ok [] (claimedBy d s)))) ∧
      (s.settings.alertNode ≠ some n →
        exec .alertSet s =
          .next (settle (withReply d .ok []
            (routeCheck { claimedBy d s with settings := { s.settings with alertNode := some n } })))))) ∧
  (∀ (d : Directive) (s : State), Accepted .alertArm d s → d.args = [] →
    (s.faultList.records = [] ∨ s.settings.alertNode = none →
      exec .alertArm s =
        .next (settle (withReply d .ok [] { claimedBy d s with alert := { s.alert with armed := true } }))) ∧
    (s.faultList.records ≠ [] → s.settings.alertNode ≠ none →
      (s.alert.pending = true →
        exec .alertArm s =
          .next (settle (withReply d .ok [] { claimedBy d s with alert := { s.alert with armed := false } }))) ∧
      (s.alert.pending = false →
        exec .alertArm s =
          .next (settle (withReply d .ok []
            (routeCheck { claimedBy d s with alert := { s.alert with armed := false, pending := true } }))))))

/-! ### Encodings -/

/-- Every parcel that fits the format is read back as itself from the bytes the router sends for it: header, payload and check
agree, in every field (R25, R26, R27, R28). The second part says how any bytes are read: they are damaged when their size is
not 20 + 4k with k up to 16, or when the last four bytes are not the check of the others (R10, R25, R26), and are otherwise
read by the kind code in byte 0, each field at its place, or are of unknown kind (R27, R28). No byte or bit that is fill
stands in what is read, and a field that the kind does not have is 0. The third part says where the router sends zeros, and
the length field that it sends in a REPLY (R27, R28). -/
def Obligations.SentParcelsAreReadBack : Prop :=
  (∀ p : Parcel, p.wf = true → parse (wireBytes p) = .parcel p) ∧
  (∀ bytes : List Byte, ∃ (byte : Nat → Byte) (k : Nat) (credits : Credits) (payload : List Word) (good : Prop),
    (∀ i, byte i = bytes.getD i 0#8) ∧ k = (bytes.length - 20) / 4 ∧
    (good ↔ k ≤ 16 ∧ bytes.length = 20 + 4 * k ∧
      checkOf (bytes.take (16 + 4 * k)) =
        byte (16 + 4 * k) ++ byte (17 + 4 * k) ++ byte (18 + 4 * k) ++ byte (19 + 4 * k)) ∧
    credits.req.toNat = (byte 1).toNat / 16 ∧ credits.rep.toNat = (byte 1).toNat % 16 ∧ payload.length = k ∧
    (∀ j, j < k →
      payload[j]? = some (byte (16 + 4 * j) ++ byte (17 + 4 * j) ++ byte (18 + 4 * j) ++ byte (19 + 4 * j))) ∧
    (parse bytes = .damaged ↔ ¬ good) ∧
    (good →
      (∀ n : Node, byte 0 = 0x01#8 → n.val = (byte 4).toNat % 32 →
        parse bytes = .parcel (.hello n (byte 5) (byte 6) ((byte 7).getLsbD 0))) ∧
      (byte 0 = 0x02#8 → parse bytes = .parcel (.credit credits)) ∧
      (byte 0 = 0x30#8 → parse bytes = .parcel (.reply credits ⟨byte 2, byte 4, payload⟩)) ∧
      (∀ kind code, (kind, code) ∈ [(ReqKind.fetch, 0x10#8), (.store, 0x11#8), (.storeC, 0x12#8), (.swap, 0x13#8),
          (.claim, 0x18#8), (.release, 0x19#8)] → byte 0 = code →
        parse bytes = .parcel (.request credits
          { kind := kind, tag := byte 2, length := (byte 3).extractLsb' 0 5,
            addr := byte 4 ++ byte 5 ++ byte 6 ++ byte 7 ++ byte 8 ++ byte 9, target := 0#8, source := 0#8, hop := 0#8,
            command := 0#8, payload := payload })) ∧
      (byte 0 = 0x20#8 →
        parse bytes = .parcel (.request credits
          { kind := .directive, tag := byte 2, length := (byte 3).extractLsb' 0 5, addr := 0#48, target := byte 4,
            source := byte 5, hop := byte 6, command := byte 7, payload := payload })) ∧
      (byte 0 = 0x21#8 →
        parse bytes = .parcel (.request credits
          { kind := .note, tag := byte 2, length := (byte 3).extractLsb' 0 5, addr := 0#48, target := byte 4,
            source := byte 5, hop := byte 6, command := 0#8, payload := payload })) ∧
      (byte 0 ∉ [0x01#8, 0x02#8, 0x10#8, 0x11#8, 0x12#8, 0x13#8, 0x18#8, 0x19#8, 0x20#8, 0x21#8, 0x30#8] →
        parse bytes = .unknownKind))) ∧
  (∀ p : Parcel, p.wf = true → ∃ sent : Nat → Byte, (∀ i, sent i = (wireBytes p).getD i 0#8) ∧
    (∀ i, 10 ≤ i → i < 16 → sent i = 0#8) ∧ (sent 3).toNat < 32 ∧
    (∀ n a b seen, p = .hello n a b seen → (wireBytes p).length = 20 ∧ (∀ i, i ∈ [1, 2, 3, 8, 9] → sent i = 0#8) ∧
      (sent 4).toNat < 32 ∧ (sent 7).toNat < 2) ∧
    (∀ c, p = .credit c → (wireBytes p).length = 20 ∧ ∀ i, 2 ≤ i → i < 10 → sent i = 0#8) ∧
    (∀ c r, p = .request c r →
      (r.kind = .directive ∨ r.kind = .note → sent 8 = 0#8 ∧ sent 9 = 0#8) ∧ (r.kind = .note → sent 7 = 0#8)) ∧
    (∀ c r, p = .reply c r → (sent 3).toNat = r.payload.length ∧ ∀ i, 5 ≤ i → i < 10 → sent i = 0#8))

/-- A window entry is what its four words describe, its must-be-0 fields are 0, and four encodable words come back from the
entry they describe (R36). -/
def Obligations.WindowEntriesRoundTrip : Prop :=
  (∀ e : WindowEntry, ∃ w1 w2 w3 w4, entryWords e = [w1, w2, w3, w4] ∧ entryOfWords w1 w2 w3 w4 = e ∧
    encodable w1 = true) ∧
  (∀ w1 w2 w3 w4 : Word, encodable w1 = true → entryWords (entryOfWords w1 w2 w3 w4) = [w1, w2, w3, w4])

/-! ### Laws that every step keeps -/

/-- Every valid Active entry satisfies the validation of COMMIT (R44), SELF stands at the own node number alone (R123), and
every step keeps both laws. -/
def Obligations.EveryStepKeepsTheTableLaws : Prop :=
  ∀ s t : State, step s = .next t → (WindowLaw s → WindowLaw t) ∧ (NodeLaw s → NodeLaw t)

/-- The manager port is unset or a port that is not HALTED, and every step keeps it so (R140). -/
def Obligations.EveryStepKeepsTheManagerLaw : Prop :=
  ∀ s t : State, ManagerLaw s → step s = .next t → ManagerLaw t

/-- The Fault List holds at most 32 records and FLT# is low exactly while it holds one, and every step keeps it so (R169,
R170). -/
def Obligations.EveryStepKeepsTheFaultListLaw : Prop :=
  ∀ s t : State, FaultListLaw s → step s = .next t → FaultListLaw t

/-- No lane, Reply Queue or owed credit exceeds its capacity, and every step keeps it so (R17, R18, R83). -/
def Obligations.EveryStepKeepsTheCapacityLaw : Prop :=
  ∀ s t : State, CapacityLaw s → step s = .next t → CapacityLaw t

/-- A port outside UP holds no traffic, the credits of an UP port are within its peer's offers, and a head is EMPTY exactly
when its lane is; every step keeps it so (R5, R8, R16, R21, R65). In OFF and HALTED nothing is sent and no HELLO waits; in
TRAINING both port timers run while RST# is high, and in no other link state either does. Every step keeps that too, whether
or not the first law holds (R3, R6, R8, R186; that OFF and HALTED abandon a HELLO being sent is log entry 6). -/
def Obligations.EveryStepKeepsTheLinkLaw : Prop :=
  ∀ s t : State, step s = .next t → (LinkLaw s → LinkLaw t) ∧ (SilenceLaw s → SilenceLaw t)

/-- No window is held by two locks, and every holder is UP and not fenced; every step keeps it so, in states that satisfy the
link law (R105). -/
def Obligations.EveryStepKeepsTheLockLaw : Prop :=
  ∀ s t : State, LinkLaw s → LockLaw s → step s = .next t → LockLaw t

/-- No two entries in ACTIVE or REPLY_DUE hold the same origin port and tag (R89), and every step keeps it so; in states that
satisfy the link law every step also keeps that the origin of each such entry is UP (R103). -/
def Obligations.EveryStepKeepsTheTrackingLaws : Prop :=
  ∀ s t : State, step s = .next t → (TagLaw s → TagLaw t) ∧ (LinkLaw s → OriginLaw s → OriginLaw t)

/-- A router at rest, with no examination, placement or arbiter's choice left undone, is at rest after every step: whatever
belongs to an event is done in it (R65, R77, R82, R133). -/
def Obligations.EveryStepEndsAtRest : Prop :=
  ∀ s t : State, Quiet s → step s = .next t → Quiet t

/-- The state after a cold reset satisfies every law, whatever the node number and the manager port that the straps give; the
state after reset is the one for the strap levels of log entry 2. -/
def Obligations.LawsHoldAfterReset : Prop :=
  (∀ (n : Node) (m : Option Port), ∃ s, s = State.cold n m ∧
    WindowLaw s ∧ NodeLaw s ∧ ManagerLaw s ∧ FaultListLaw s ∧ CapacityLaw s ∧ LinkLaw s ∧ LockLaw s ∧ TagLaw s ∧
    OriginLaw s ∧ SilenceLaw s ∧ Quiet s) ∧
  State.reset = State.cold 0 none

/-! ### What a block may do by itself -/

/-- What may be taken by itself, and when: the first examination of a parcel that has become the head, a later examination of
a head marked for it, and the placing of a held reply that has room, which come first (R65, R66, R133; that they do is log
entry 15); then a directive offered to an IDLE Management Unit (R82), and the choice of an Output Arbiter whose port is UP, has
sent its closing HELLO and is sending nothing, when it has a reply and a reply credit, a request it may grant and a request
credit, or a credit owed (R77, R78, R79, R17; that a CREDIT goes at once is log entry 7). A request may be granted at the output
its head is resolved to, if it is posted or an entry is FREE and its origin is under its quota (R74), and an alert note at the
port it is queued at (R81). The router is at rest exactly when nothing may be taken. The last part says what is done when one
is taken: the block's own action, which the statements about that block describe. -/
def Obligations.InternalActionsAreThoseThatMayBeTaken : Prop :=
  ∀ s : State, ∃ placeable due : Prop,
    (placeable ↔ ∃ o q, s.mgmt = .replyHeld o q ∧ (s.port o).link = .up ∧ (s.port o).replyQueue.length < 8) ∧
    (due ↔ (∃ x, (s.port x).head = .unexamined) ∨ (∃ x, (s.port x).recheck = true) ∨ placeable) ∧
    (∀ x, .examine x ∈ internalActions s ↔ (s.port x).head = .unexamined) ∧
    (∀ x, .reexamine x ∈ internalActions s ↔ (s.port x).recheck = true) ∧
    (.placeReply ∈ internalActions s ↔ placeable) ∧
    (.grantM ∈ internalActions s ↔ ¬ due ∧ s.mgmt = .idle ∧
      ∃ x h rest g, (s.port x).reqLane = h :: rest ∧ (s.port x).head = .offered ⟨.management, g⟩) ∧
    (∀ out, .choose out ∈ internalActions s ↔ ¬ due ∧ (s.port out).link = .up ∧ (s.port out).tx = none ∧
      (s.port out).helloDue = 0 ∧
      (((s.port out).replyQueue ≠ [] ∧ 0 < (s.port out).credits.rep) ∨
        (0 < (s.port out).credits.req ∧ ∃ i, eligible s out i = true) ∨
        0 < (s.port out).owed.req ∨ 0 < (s.port out).owed.rep)) ∧
    (∀ (out x : Port) (i : Fin 7), i.val = x.val → (eligible s out i = true ↔
      ∃ h rest res, (s.port x).reqLane = h :: rest ∧ (s.port x).head = .offered res ∧
        ((∃ w a, res.route = .memory w out a) ∨ ∃ n, res.route = .forward out n) ∧
        (h.kind = .store ∨ h.kind = .note ∨
          ((∃ j : Fin 64, s.track[j] = none) ∧ originCount s x < s.settings.quota[x])))) ∧
    (∀ out, eligible s out 6 = true ↔
      ∃ q, s.alert.queued = some q ∧ q.out = out ∧ q.sending = false) ∧
    (Quiet s ↔ ∀ a, a ∉ internalActions s) ∧
    (∀ x, doInternal (.examine x) s = examineHead x s ∧ doInternal (.reexamine x) s = reexamineHead x s ∧
      doInternal (.choose x) s = chooseNext x s) ∧
    doInternal .placeReply s = placeReply s ∧ doInternal .grantM s = grantM s
end

