-- ==== Sys2Proof/Laws/Directives.lean ====
section
/-! SUPPORT. What the execution of a directive comes to, once for all commands: refused for want of authority, for its count
or for its values, or carried out. -/

namespace Sys2Proof.Machine

open Sys2Proof

/-- The execution event of the directive that the Management Unit holds. -/
theorem executeCommand_executing {c : Command} {d : Directive} {s : State} {checks : ValueChecks} (h : Executing c d s) :
    executeCommand c checks s = .next (settle (deliver d (runCommand c checks d s))) := by
  obtain ⟨h1, h2, h3⟩ := h
  simp [executeCommand, whenRunning, h1, h2, h3]

/-- With no such directive in execution there is no event. -/
theorem executeCommand_other {c : Command} {s : State} {checks : ValueChecks}
    (h : ∀ d, s.mgmt = .executing d → d.command ≠ c.code) : executeCommand c checks s = .next s := by
  unfold executeCommand whenRunning
  split
  · rfl
  · show Host.Outcome.next _ = _
    congr 1
    dsimp only
    split
    · next d hd => rw [if_neg (h d hd)]
    · rfl

/-- A read-only command, or one with authority, passes the authority check. -/
theorem authorityFails_eq_false {c : Command} {d : Directive} {s : State} (h : c.readOnly = true ∨ Authorised d s) :
    authorityFails c d s = false := by
  rcases h with h | h | ⟨h, hl⟩
  · simp [authorityFails, h]
  · simp [authorityFails, h]
  · have : ((s.port d.origin).link == .halted) = false := by simpa using hl
    simp [authorityFails, h, this]

/-- A modifying command with authority leaves its origin as the manager port. -/
theorem claimManager_eq {c : Command} {d : Directive} {s : State} (h : Authorised d s) (hc : c.readOnly = false) :
    claimManager c d s = claimedBy d s := by
  rcases h with h | ⟨h, -⟩
  · simp [claimManager, hc, h, claimedBy]
    rw [← h]
  · simp [claimManager, hc, h, claimedBy]

/-- A read-only command claims nothing. -/
theorem claimManager_readOnly {c : Command} {d : Directive} {s : State} (hc : c.readOnly = true) :
    claimManager c d s = s := by
  simp [claimManager, hc]

/-- A reply with no deferred action is built and waits, or is discarded. -/
theorem deliver_reply {d : Directive} {st : Status} {payload : List Word} {s : State} :
    deliver d (reply st payload s) = withReply d st payload s := by
  unfold deliver withReply
  cases h : s.isUp d.origin <;> simp [reply, h, pendingOf, takeActions, runActions]

/-- A command that fails the authority check is answered NOT_MANAGER. -/
theorem executeCommand_unauthorised {c : Command} {d : Directive} {s : State} {checks : ValueChecks}
    (h : Executing c d s) (ha : authorityFails c d s = true) :
    executeCommand c checks s = .next (settle (withReply d .notManager [] s)) := by
  rw [executeCommand_executing h, runCommand, ha]
  simp [deliver_reply]

/-- A command with a wrong argument count is answered BAD_ARGUMENT. -/
theorem executeCommand_wrong_count {c : Command} {d : Directive} {s : State} {checks : ValueChecks}
    (h : Executing c d s) (ha : c.readOnly = true ∨ Authorised d s) (hn : d.length.toNat ≠ c.argCount) :
    executeCommand c checks s = .next (settle (withReply d .badArgument [] s)) := by
  rw [executeCommand_executing h, runCommand, authorityFails_eq_false ha]
  simp [deliver_reply, hn]

/-- A command whose value checks fail is answered BAD_ARGUMENT. -/
theorem executeCommand_bad_value {c : Command} {d : Directive} {s : State} {checks : ValueChecks} (h : Accepted c d s)
    (he : checks d.args s = none) : executeCommand c checks s = .next (settle (withReply d .badArgument [] s)) := by
  obtain ⟨h1, h2, h3⟩ := h
  rw [executeCommand_executing h1, runCommand, authorityFails_eq_false h2]
  simp [h3, he, deliver_reply]

/-- A read-only command whose value checks pass. -/
theorem executeCommand_readOnly {c : Command} {d : Directive} {s : State} {checks : ValueChecks}
    {effect : State → DirResult} (h : Accepted c d s) (hc : c.readOnly = true) (he : checks d.args s = some effect) :
    executeCommand c checks s = .next (settle (deliver d (effect s))) := by
  obtain ⟨h1, h2, h3⟩ := h
  rw [executeCommand_executing h1, runCommand, authorityFails_eq_false h2]
  simp [h3, he, claimManager_readOnly hc]

/-- A modifying command whose value checks pass. -/
theorem executeCommand_modifying {c : Command} {d : Directive} {s : State} {checks : ValueChecks}
    {effect : State → DirResult} (h : Accepted c d s) (hc : c.readOnly = false) (he : checks d.args s = some effect) :
    executeCommand c checks s = .next (settle (deliver d (effect (claimedBy d s)))) := by
  obtain ⟨h1, h2, h3⟩ := h
  have ha : Authorised d s := h2.resolve_left (by simp [hc])
  rw [executeCommand_executing h1, runCommand, authorityFails_eq_false h2]
  simp [h3, he, claimManager_eq ha hc]

/-- A word that names a port is read as that port. -/
theorem portOfNat_val {w : Word} {p : Port} (h : w.toNat = p.val) : portOfNat w.toNat = some p := by
  simp [portOfNat, h]

end Sys2Proof.Machine
end

