-- ==== Sys2Proof/Laws/State.lean ====
section
/-! SUPPORT. The small lemmas of State: what each field is after each update, so that no proof unfolds a record update. -/

namespace Sys2Proof.Machine

open Sys2Proof

/-! ### `modifyPort` -/

@[simp] theorem State.port_modifyPort_self (s : State) (p : Port) (f : PortRec → PortRec) :
    (s.modifyPort p f).port p = f (s.port p) := by
  simp [State.modifyPort, State.port]

theorem State.port_modifyPort_of_ne {p q : Port} (s : State) (f : PortRec → PortRec) (h : q ≠ p) :
    (s.modifyPort p f).port q = s.port q := by
  have h2 : ¬ p.val = q.val := fun e => h (Fin.ext e.symm)
  simp [State.modifyPort, State.port, h2]

theorem State.port_modifyPort (s : State) (p q : Port) (f : PortRec → PortRec) :
    (s.modifyPort p f).port q = if q = p then f (s.port q) else s.port q := by
  by_cases h : q = p
  · subst h; simp
  · simp [h, State.port_modifyPort_of_ne]

/-- Two changes of one port record are one change. -/
theorem State.modifyPort_modifyPort (s : State) (p : Port) (f g : PortRec → PortRec) :
    (s.modifyPort p f).modifyPort p g = s.modifyPort p fun r => g (f r) := by
  simp [State.modifyPort, State.port]

/-- A change of a port record depends on its value at that record alone. -/
theorem State.modifyPort_congr {s : State} {p : Port} {f g : PortRec → PortRec} (h : f (s.port p) = g (s.port p)) :
    s.modifyPort p f = s.modifyPort p g := by
  simp [State.modifyPort, h]

/-- A change that keeps the port record keeps the state. -/
theorem State.modifyPort_eq_self {s : State} {p : Port} {f : PortRec → PortRec} (h : f (s.port p) = s.port p) :
    s.modifyPort p f = s := by
  rw [State.modifyPort, h]
  simp [State.port]

@[simp] theorem State.modifyPort_pending (s : State) (p : Port) (f : PortRec → PortRec) :
    (s.modifyPort p f).pending = s.pending := rfl

@[simp] theorem State.modifyPort_resetLow (s : State) (p : Port) (f : PortRec → PortRec) :
    (s.modifyPort p f).resetLow = s.resetLow := rfl

@[simp] theorem State.modifyPort_fltLow (s : State) (p : Port) (f : PortRec → PortRec) :
    (s.modifyPort p f).fltLow = s.fltLow := rfl

@[simp] theorem State.modifyPort_time (s : State) (p : Port) (f : PortRec → PortRec) :
    (s.modifyPort p f).time = s.time := rfl

@[simp] theorem State.modifyPort_node (s : State) (p : Port) (f : PortRec → PortRec) :
    (s.modifyPort p f).node = s.node := rfl

@[simp] theorem State.modifyPort_nodeTable (s : State) (p : Port) (f : PortRec → PortRec) :
    (s.modifyPort p f).nodeTable = s.nodeTable := rfl

@[simp] theorem State.modifyPort_mPointer (s : State) (p : Port) (f : PortRec → PortRec) :
    (s.modifyPort p f).mPointer = s.mPointer := rfl

@[simp] theorem State.modifyPort_windows (s : State) (p : Port) (f : PortRec → PortRec) :
    (s.modifyPort p f).windows = s.windows := rfl

@[simp] theorem State.modifyPort_track (s : State) (p : Port) (f : PortRec → PortRec) :
    (s.modifyPort p f).track = s.track := rfl

@[simp] theorem State.modifyPort_locks (s : State) (p : Port) (f : PortRec → PortRec) :
    (s.modifyPort p f).locks = s.locks := rfl

@[simp] theorem State.modifyPort_mgmt (s : State) (p : Port) (f : PortRec → PortRec) :
    (s.modifyPort p f).mgmt = s.mgmt := rfl

@[simp] theorem State.modifyPort_actions (s : State) (p : Port) (f : PortRec → PortRec) :
    (s.modifyPort p f).actions = s.actions := rfl

@[simp] theorem State.modifyPort_manager (s : State) (p : Port) (f : PortRec → PortRec) :
    (s.modifyPort p f).manager = s.manager := rfl

@[simp] theorem State.modifyPort_settings (s : State) (p : Port) (f : PortRec → PortRec) :
    (s.modifyPort p f).settings = s.settings := rfl

@[simp] theorem State.modifyPort_faultList (s : State) (p : Port) (f : PortRec → PortRec) :
    (s.modifyPort p f).faultList = s.faultList := rfl

@[simp] theorem State.modifyPort_alert (s : State) (p : Port) (f : PortRec → PortRec) :
    (s.modifyPort p f).alert = s.alert := rfl

@[simp] theorem State.modifyPort_freeUsed (s : State) (p : Port) (f : PortRec → PortRec) :
    (s.modifyPort p f).freeUsed = s.freeUsed := rfl

/-! ### `port` after an update of another field -/

@[simp] theorem State.port_with_pending (s : State) (v : List Instr) (p : Port) :
    ({ s with pending := v } : State).port p = s.port p := rfl

@[simp] theorem State.port_with_resetLow (s : State) (v : Bool) (p : Port) :
    ({ s with resetLow := v } : State).port p = s.port p := rfl

@[simp] theorem State.port_with_fltLow (s : State) (v : Bool) (p : Port) :
    ({ s with fltLow := v } : State).port p = s.port p := rfl

@[simp] theorem State.port_with_time (s : State) (v : BitVec 32) (p : Port) :
    ({ s with time := v } : State).port p = s.port p := rfl

@[simp] theorem State.port_with_node (s : State) (v : Node) (p : Port) :
    ({ s with node := v } : State).port p = s.port p := rfl

@[simp] theorem State.port_with_nodeTable (s : State) (v : Vector NodeEntry 32) (p : Port) :
    ({ s with nodeTable := v } : State).port p = s.port p := rfl

@[simp] theorem State.port_with_mPointer (s : State) (v : Fin 6) (p : Port) :
    ({ s with mPointer := v } : State).port p = s.port p := rfl

@[simp] theorem State.port_with_windows (s : State) (v : WindowTable) (p : Port) :
    ({ s with windows := v } : State).port p = s.port p := rfl

@[simp] theorem State.port_with_track (s : State) (v : Vector (Option TrackEntry) 64) (p : Port) :
    ({ s with track := v } : State).port p = s.port p := rfl

@[simp] theorem State.port_with_locks (s : State) (v : Vector (Option Lock) 4) (p : Port) :
    ({ s with locks := v } : State).port p = s.port p := rfl

@[simp] theorem State.port_with_mgmt (s : State) (v : MgmtState) (p : Port) :
    ({ s with mgmt := v } : State).port p = s.port p := rfl

@[simp] theorem State.port_with_actions (s : State) (v : List PendingAction) (p : Port) :
    ({ s with actions := v } : State).port p = s.port p := rfl

@[simp] theorem State.port_with_manager (s : State) (v : Option Port) (p : Port) :
    ({ s with manager := v } : State).port p = s.port p := rfl

@[simp] theorem State.port_with_settings (s : State) (v : Settings) (p : Port) :
    ({ s with settings := v } : State).port p = s.port p := rfl

@[simp] theorem State.port_with_faultList (s : State) (v : FaultList) (p : Port) :
    ({ s with faultList := v } : State).port p = s.port p := rfl

@[simp] theorem State.port_with_alert (s : State) (v : AlertPath) (p : Port) :
    ({ s with alert := v } : State).port p = s.port p := rfl

@[simp] theorem State.port_with_freeUsed (s : State) (v : Nat) (p : Port) :
    ({ s with freeUsed := v } : State).port p = s.port p := rfl

/-! ### `setEntry` -/

@[simp] theorem setEntry_self (s : State) (i : Fin 64) (v : Option TrackEntry) : (setEntry i v s).track[i] = v := by
  simp [setEntry]

theorem setEntry_of_ne {i j : Fin 64} (s : State) (v : Option TrackEntry) (h : j ≠ i) :
    (setEntry i v s).track[j] = s.track[j] := by
  have h2 : ¬ i.val = j.val := fun e => h (Fin.ext e.symm)
  simp [setEntry, h2]

@[simp] theorem setEntry_port (s : State) (i : Fin 64) (v : Option TrackEntry) (p : Port) : (setEntry i v s).port p = s.port p := rfl

@[simp] theorem setEntry_pending (s : State) (i : Fin 64) (v : Option TrackEntry) : (setEntry i v s).pending = s.pending := rfl

@[simp] theorem setEntry_resetLow (s : State) (i : Fin 64) (v : Option TrackEntry) : (setEntry i v s).resetLow = s.resetLow := rfl

@[simp] theorem setEntry_fltLow (s : State) (i : Fin 64) (v : Option TrackEntry) : (setEntry i v s).fltLow = s.fltLow := rfl

@[simp] theorem setEntry_time (s : State) (i : Fin 64) (v : Option TrackEntry) : (setEntry i v s).time = s.time := rfl

@[simp] theorem setEntry_node (s : State) (i : Fin 64) (v : Option TrackEntry) : (setEntry i v s).node = s.node := rfl

@[simp] theorem setEntry_nodeTable (s : State) (i : Fin 64) (v : Option TrackEntry) : (setEntry i v s).nodeTable = s.nodeTable := rfl

@[simp] theorem setEntry_mPointer (s : State) (i : Fin 64) (v : Option TrackEntry) : (setEntry i v s).mPointer = s.mPointer := rfl

@[simp] theorem setEntry_windows (s : State) (i : Fin 64) (v : Option TrackEntry) : (setEntry i v s).windows = s.windows := rfl

@[simp] theorem setEntry_locks (s : State) (i : Fin 64) (v : Option TrackEntry) : (setEntry i v s).locks = s.locks := rfl

@[simp] theorem setEntry_mgmt (s : State) (i : Fin 64) (v : Option TrackEntry) : (setEntry i v s).mgmt = s.mgmt := rfl

@[simp] theorem setEntry_actions (s : State) (i : Fin 64) (v : Option TrackEntry) : (setEntry i v s).actions = s.actions := rfl

@[simp] theorem setEntry_manager (s : State) (i : Fin 64) (v : Option TrackEntry) : (setEntry i v s).manager = s.manager := rfl

@[simp] theorem setEntry_settings (s : State) (i : Fin 64) (v : Option TrackEntry) : (setEntry i v s).settings = s.settings := rfl

@[simp] theorem setEntry_faultList (s : State) (i : Fin 64) (v : Option TrackEntry) : (setEntry i v s).faultList = s.faultList := rfl

@[simp] theorem setEntry_alert (s : State) (i : Fin 64) (v : Option TrackEntry) : (setEntry i v s).alert = s.alert := rfl

@[simp] theorem setEntry_freeUsed (s : State) (i : Fin 64) (v : Option TrackEntry) : (setEntry i v s).freeUsed = s.freeUsed := rfl

@[simp] theorem setEntry_ports (s : State) (i : Fin 64) (v : Option TrackEntry) : (setEntry i v s).ports = s.ports := rfl

/-! ### `setLock` -/

@[simp] theorem setLock_self (s : State) (r : Fin 4) (v : Option Lock) : (setLock r v s).locks[r] = v := by
  simp [setLock]

theorem setLock_of_ne {r j : Fin 4} (s : State) (v : Option Lock) (h : j ≠ r) :
    (setLock r v s).locks[j] = s.locks[j] := by
  have h2 : ¬ r.val = j.val := fun e => h (Fin.ext e.symm)
  simp [setLock, h2]

@[simp] theorem setLock_port (s : State) (r : Fin 4) (v : Option Lock) (p : Port) : (setLock r v s).port p = s.port p := rfl

@[simp] theorem setLock_pending (s : State) (r : Fin 4) (v : Option Lock) : (setLock r v s).pending = s.pending := rfl

@[simp] theorem setLock_resetLow (s : State) (r : Fin 4) (v : Option Lock) : (setLock r v s).resetLow = s.resetLow := rfl

@[simp] theorem setLock_fltLow (s : State) (r : Fin 4) (v : Option Lock) : (setLock r v s).fltLow = s.fltLow := rfl

@[simp] theorem setLock_time (s : State) (r : Fin 4) (v : Option Lock) : (setLock r v s).time = s.time := rfl

@[simp] theorem setLock_node (s : State) (r : Fin 4) (v : Option Lock) : (setLock r v s).node = s.node := rfl

@[simp] theorem setLock_nodeTable (s : State) (r : Fin 4) (v : Option Lock) : (setLock r v s).nodeTable = s.nodeTable := rfl

@[simp] theorem setLock_mPointer (s : State) (r : Fin 4) (v : Option Lock) : (setLock r v s).mPointer = s.mPointer := rfl

@[simp] theorem setLock_windows (s : State) (r : Fin 4) (v : Option Lock) : (setLock r v s).windows = s.windows := rfl

@[simp] theorem setLock_track (s : State) (r : Fin 4) (v : Option Lock) : (setLock r v s).track = s.track := rfl

@[simp] theorem setLock_mgmt (s : State) (r : Fin 4) (v : Option Lock) : (setLock r v s).mgmt = s.mgmt := rfl

@[simp] theorem setLock_actions (s : State) (r : Fin 4) (v : Option Lock) : (setLock r v s).actions = s.actions := rfl

@[simp] theorem setLock_manager (s : State) (r : Fin 4) (v : Option Lock) : (setLock r v s).manager = s.manager := rfl

@[simp] theorem setLock_settings (s : State) (r : Fin 4) (v : Option Lock) : (setLock r v s).settings = s.settings := rfl

@[simp] theorem setLock_faultList (s : State) (r : Fin 4) (v : Option Lock) : (setLock r v s).faultList = s.faultList := rfl

@[simp] theorem setLock_alert (s : State) (r : Fin 4) (v : Option Lock) : (setLock r v s).alert = s.alert := rfl

@[simp] theorem setLock_freeUsed (s : State) (r : Fin 4) (v : Option Lock) : (setLock r v s).freeUsed = s.freeUsed := rfl

@[simp] theorem setLock_ports (s : State) (r : Fin 4) (v : Option Lock) : (setLock r v s).ports = s.ports := rfl

end Sys2Proof.Machine
end

