-- ==== Sys2Proof/Laws/Frame.lean ====
section
/-! SUPPORT. What every internal action leaves unchanged: one lemma for each operation that examinations, placements and
arbiter choices are made of. -/

namespace Sys2Proof.Machine

open Sys2Proof

theorem PortRec.SameSetup.refl (r : PortRec) : r.SameSetup r := by simp [PortRec.SameSetup]

theorem SameSetup.refl (s : State) : SameSetup s s := by simp [SameSetup, PortRec.SameSetup]

theorem SameSetup.trans {s t u : State} (h : SameSetup s t) (k : SameSetup t u) : SameSetup s u := by
  obtain ⟨h1, h2, h3, h4, h5, h6, h7, h8, h9, h10, hp⟩ := h
  obtain ⟨k1, k2, k3, k4, k5, k6, k7, k8, k9, k10, kp⟩ := k
  refine ⟨k1.trans h1, k2.trans h2, k3.trans h3, k4.trans h4, k5.trans h5, k6.trans h6, k7.trans h7, k8.trans h8,
    k9.trans h9, k10.trans h10, fun p => ?_⟩
  obtain ⟨a1, a2, a3, a4, a5, a6, a7, a8, a9⟩ := hp p
  obtain ⟨b1, b2, b3, b4, b5, b6, b7, b8, b9⟩ := kp p
  exact ⟨b1.trans a1, b2.trans a2, b3.trans a3, b4.trans a4, b5.trans a5, b6.trans a6, b7.trans a7, b8.trans a8,
    b9.trans a9⟩

/-- A change of one port record that keeps the port's setup. -/
theorem sameSetup_modifyPort (p : Port) (f : PortRec → PortRec) (s : State) (h : ∀ r : PortRec, r.SameSetup (f r)) :
    SameSetup s (s.modifyPort p f) := by
  refine ⟨rfl, rfl, rfl, rfl, rfl, rfl, rfl, rfl, rfl, rfl, fun q => ?_⟩
  rw [State.port_modifyPort]
  split
  · exact h _
  · exact PortRec.SameSetup.refl _

/-- A change of the blocks that internal actions may change, with the port records kept. -/
theorem sameSetup_blocks (s : State) (track : Vector (Option TrackEntry) 64) (locks : Vector (Option Lock) 4)
    (mgmt : MgmtState) (ptr : Fin 6) (records : List FaultRecord) (seq : BitVec 16) (flt : Bool) (alert : AlertPath)
    (k : Nat) :
    SameSetup s { s with track := track, locks := locks, mgmt := mgmt, mPointer := ptr, fltLow := flt, alert := alert,
                         freeUsed := k, faultList := { s.faultList with records := records, nextSeq := seq } } :=
  ⟨rfl, rfl, rfl, rfl, rfl, rfl, rfl, rfl, rfl, rfl, fun _ => PortRec.SameSetup.refl _⟩

theorem sameSetup_freeUsed (s : State) (k : Nat) : SameSetup s { s with freeUsed := k } :=
  sameSetup_blocks s s.track s.locks s.mgmt s.mPointer s.faultList.records s.faultList.nextSeq s.fltLow s.alert k

theorem sameSetup_mgmt (s : State) (m : MgmtState) : SameSetup s { s with mgmt := m } :=
  sameSetup_blocks s s.track s.locks m s.mPointer s.faultList.records s.faultList.nextSeq s.fltLow s.alert s.freeUsed

theorem sameSetup_alert (s : State) (a : AlertPath) : SameSetup s { s with alert := a } :=
  sameSetup_blocks s s.track s.locks s.mgmt s.mPointer s.faultList.records s.faultList.nextSeq s.fltLow a s.freeUsed

theorem sameSetup_setEntry (i : Fin 64) (e : Option TrackEntry) (s : State) : SameSetup s (setEntry i e s) :=
  sameSetup_blocks s (s.track.set i e) s.locks s.mgmt s.mPointer s.faultList.records s.faultList.nextSeq s.fltLow s.alert
    s.freeUsed

theorem sameSetup_setLock (r : Fin 4) (l : Option Lock) (s : State) : SameSetup s (setLock r l s) :=
  sameSetup_blocks s s.track (s.locks.set r l) s.mgmt s.mPointer s.faultList.records s.faultList.nextSeq s.fltLow s.alert
    s.freeUsed

/-! ### Faults and alerts -/

theorem sameSetup_routeCheck (s : State) : SameSetup s (routeCheck s) := by
  unfold routeCheck
  split
  · split
    · exact SameSetup.refl s
    · exact sameSetup_alert s _
  · exact SameSetup.refl s

theorem sameSetup_raiseAlert (s : State) : SameSetup s (raiseAlert s) := by
  unfold raiseAlert
  split
  · unfold setPendingAlert
    split
    · exact sameSetup_alert s _
    · exact (sameSetup_alert s _).trans ((sameSetup_alert _ _).trans (sameSetup_routeCheck _))
  · exact SameSetup.refl s

theorem sameSetup_raiseFault (r : FaultReport) (s : State) : SameSetup s (raiseFault r s) := by
  have h := sameSetup_blocks s s.track s.locks s.mgmt s.mPointer
    (keepRecord s.faultList.policy s.faultList.records (faultRecord r s)) (s.faultList.nextSeq + 1#16)
    (s.fltLow || isKept s.faultList.policy s.faultList.records) s.alert s.freeUsed
  unfold raiseFault
  dsimp only
  split
  · exact h.trans (sameSetup_raiseAlert _)
  · exact h

/-! ### Lanes, queues and the transmitter -/

theorem sameSetup_popHead (p : Port) (s : State) : SameSetup s (popHead p s) :=
  sameSetup_modifyPort p _ s fun r => by split <;> simp [PortRec.SameSetup]

theorem sameSetup_popReply (p : Port) (s : State) : SameSetup s (popReply p s) :=
  sameSetup_modifyPort p _ s fun r => by split <;> simp [PortRec.SameSetup]

theorem sameSetup_beginParcel (p : Port) (parcel : Parcel) (tied : Bool) (s : State) :
    SameSetup s (beginParcel p parcel tied s) :=
  sameSetup_modifyPort p _ s fun r => by simp [PortRec.SameSetup]

theorem sameSetup_enqueueReply (p : Port) (q : QueuedReply) (s : State) : SameSetup s (enqueueReply p q s) :=
  sameSetup_modifyPort p _ s fun r => by simp [PortRec.SameSetup]

theorem sameSetup_admitClaimant (p : Port) (c : Fin 8) (q : QueuedReply) (s : State) :
    SameSetup s (admitClaimant p c q s) :=
  sameSetup_modifyPort p _ s fun r => by simp [PortRec.SameSetup]

theorem sameSetup_offerAnswer (p : Port) (res : Option Resolution) (r : Reply) (s : State) :
    SameSetup s (offerAnswer p res r s) := by
  unfold offerAnswer
  split
  · exact (sameSetup_admitClaimant _ _ _ _).trans (sameSetup_popHead _ _)
  · exact sameSetup_modifyPort p _ s fun r => by simp [PortRec.SameSetup]

theorem sameSetup_toTombstone (i : Fin 64) (e : TrackEntry) (s : State) : SameSetup s (toTombstone i e s) :=
  sameSetup_setEntry i _ s

theorem sameSetup_markHeads (which : Port → PortRec → Bool) (s : State) : SameSetup s (markHeads which s) := by
  refine ⟨rfl, rfl, rfl, rfl, rfl, rfl, rfl, rfl, rfl, rfl, fun p => ?_⟩
  simp only [markHeads, State.port, Fin.getElem_fin, Vector.getElem_mapFinIdx]
  split <;> simp [PortRec.SameSetup]

/-! ### Examinations -/

theorem sameSetup_setHead (x : Port) (st : HeadState) (s : State) : SameSetup s (setHead x st s) :=
  sameSetup_modifyPort x _ s fun r => by simp [PortRec.SameSetup]

theorem sameSetup_dropWithFault (x : Port) (r : FaultReport) (s : State) : SameSetup s (dropWithFault x r s) :=
  (sameSetup_raiseFault r s).trans (sameSetup_popHead x _)

theorem sameSetup_stopHead (x : Port) (res : Option Resolution) (h : Request) (st : Status) (r : FaultReport) (s : State) :
    SameSetup s (stopHead x res h st r s) := by
  unfold stopHead
  split
  · exact sameSetup_dropWithFault x r s
  · exact sameSetup_offerAnswer x res _ s

theorem sameSetup_stopByFence (x : Port) (res : Option Resolution) (h : Request) (s : State) :
    SameSetup s (stopByFence x res h s) := by
  unfold stopByFence
  split
  · refine (sameSetup_modifyPort x _ s fun r => ?_).trans (sameSetup_popHead x _)
    simp [PortRec.SameSetup]
  · exact sameSetup_offerAnswer x res _ s

theorem sameSetup_stopMalformed (x : Port) (h : Request) (m : Malformation) (s : State) :
    SameSetup s (stopMalformed x h m s) := by
  unfold stopMalformed
  split
  · exact sameSetup_dropWithFault x _ s
  · exact sameSetup_offerAnswer x none _ s

theorem sameSetup_lockOrOffer (x : Port) (res : Resolution) (s : State) : SameSetup s (lockOrOffer x res s) := by
  unfold lockOrOffer
  split <;> exact sameSetup_setHead x _ s

theorem sameSetup_outputChecks (x : Port) (h : Request) (res : Resolution) (s : State) :
    SameSetup s (outputChecks x h res s) := by
  unfold outputChecks
  split
  · exact sameSetup_lockOrOffer x res s
  · split
    · exact sameSetup_lockOrOffer x res s
    · exact sameSetup_stopHead x _ h _ _ s

theorem sameSetup_decideClaim (x : Port) (i : Fin 48) (s : State) : SameSetup s (decideClaim x i s).2 := by
  unfold decideClaim
  split
  · exact sameSetup_setLock _ _ s
  · split
    · exact SameSetup.refl s
    · split
      · exact (sameSetup_setLock _ _ s).trans (sameSetup_markHeads _ _)
      · exact SameSetup.refl s

theorem sameSetup_decideRelease (x : Port) (i : Fin 48) (s : State) : SameSetup s (decideRelease x i s).2 := by
  unfold decideRelease
  split
  · exact (sameSetup_setLock _ _ s).trans (sameSetup_markHeads _ _)
  · exact SameSetup.refl s

theorem sameSetup_answerPathLock (x : Port) (h : Request) (i : Fin 48) (d : Port) (out : Addr) (s : State) :
    SameSetup s (answerPathLock x h i d out s) := by
  unfold answerPathLock refuse
  dsimp only
  refine SameSetup.trans ?_ (sameSetup_offerAnswer x _ _ _)
  split
  · exact sameSetup_decideClaim x i s
  · exact sameSetup_decideRelease x i s

theorem sameSetup_resolveAddress (x : Port) (h : Request) (s : State) : SameSetup s (resolveAddress x h s) := by
  unfold resolveAddress
  dsimp only
  split
  · exact sameSetup_stopHead x _ h _ _ s
  · exact sameSetup_stopHead x _ h _ _ s
  · split
    · exact sameSetup_answerPathLock x h _ _ _ s
    · exact sameSetup_outputChecks x h _ s

theorem sameSetup_stopByHopLimit (x : Port) (h : Request) (s : State) : SameSetup s (stopByHopLimit x h s) := by
  unfold stopByHopLimit
  split
  · exact sameSetup_dropWithFault x _ s
  · exact (sameSetup_raiseFault _ s).trans (sameSetup_offerAnswer x _ _ _)

theorem sameSetup_resolveForward (x : Port) (h : Request) (s : State) : SameSetup s (resolveForward x h s) := by
  unfold resolveForward
  dsimp only
  split
  · exact sameSetup_outputChecks x h _ s
  · exact sameSetup_stopHead x _ h _ _ s

theorem sameSetup_resolveNode (x : Port) (h : Request) (s : State) : SameSetup s (resolveNode x h s) := by
  unfold resolveNode
  split
  · split
    · exact sameSetup_dropWithFault x _ s
    · exact sameSetup_setHead x _ s
  · split
    · exact sameSetup_stopByHopLimit x h s
    · exact sameSetup_resolveForward x h s

theorem sameSetup_examineHead (x : Port) (s : State) : SameSetup s (examineHead x s) := by
  unfold examineHead
  split
  · exact sameSetup_setHead x _ s
  · split
    · exact sameSetup_stopByFence x none _ s
    · split
      · exact sameSetup_stopMalformed x _ _ s
      · split
        · exact sameSetup_resolveNode x _ s
        · exact sameSetup_resolveAddress x _ s

theorem sameSetup_recheckHeld (x : Port) (h : Request) (res : Resolution) (s : State) :
    SameSetup s (recheckHeld x h res s) := by
  unfold recheckHeld
  split
  · exact sameSetup_stopByFence x _ h s
  · exact sameSetup_outputChecks x h res s

theorem sameSetup_reexamineHead (x : Port) (s : State) : SameSetup s (reexamineHead x s) := by
  unfold reexamineHead
  dsimp only
  split
  · exact sameSetup_recheckHeld x _ _ s
  · exact sameSetup_recheckHeld x _ _ s
  · exact sameSetup_setHead x _ s

/-! ### Choices of the arbiters -/

theorem sameSetup_relayReply (p : Port) (r : Reply) (i : Fin 64) (e : TrackEntry) (s : State) :
    SameSetup s (relayReply p r i e s) :=
  (sameSetup_admitClaimant _ _ _ s).trans ((sameSetup_setEntry _ _ _).trans (sameSetup_popReply _ _))

theorem sameSetup_admitWaiting (x : Port) (c : Fin 8) (s : State) : SameSetup s (admitWaiting x c s) := by
  unfold admitWaiting
  split
  · split
    · exact sameSetup_relayReply _ _ _ _ s
    · exact SameSetup.refl s
  · split
    · split
      · exact (sameSetup_admitClaimant _ _ _ s).trans (sameSetup_popHead _ _)
      · exact SameSetup.refl s
    · split
      · exact (sameSetup_admitClaimant _ _ _ s).trans (sameSetup_mgmt _ _)
      · exact SameSetup.refl s

theorem sameSetup_serveReplyDue (x : Port) (i : Fin 64) (s : State) : SameSetup s (serveReplyDue x i s) := by
  unfold serveReplyDue
  split
  · split
    · exact (sameSetup_enqueueReply _ _ s).trans (sameSetup_toTombstone _ _ _)
    · exact SameSetup.refl s
  · exact SameSetup.refl s

theorem sameSetup_giveSlot (x : Port) (s : State) : SameSetup s (giveSlot x s) := by
  unfold giveSlot
  split
  · exact sameSetup_serveReplyDue x _ s
  · split
    · exact sameSetup_admitWaiting x _ s
    · exact SameSetup.refl s

theorem sameSetup_beginGrant (out : Port) (i : Fin 7) (r : Request) (s : State) : SameSetup s (beginGrant out i r s) := by
  unfold beginGrant takeRequestCredit
  refine (sameSetup_beginParcel out _ _ s).trans ((sameSetup_modifyPort out _ _ fun r => ?_).trans
    (sameSetup_modifyPort out _ _ fun r => ?_)) <;> simp [PortRec.SameSetup]

theorem sameSetup_grantHead (out x : Port) (i : Fin 7) (r : Request) (s : State) : SameSetup s (grantHead out x i r s) :=
  (sameSetup_beginGrant out i r s).trans (sameSetup_popHead x _)

theorem sameSetup_grantNote (out : Port) (q : QueuedNote) (s : State) : SameSetup s (grantNote out q s) :=
  (sameSetup_alert s _).trans (sameSetup_beginGrant out 6 _ _)

/-- The state that comes of asking to grant one candidate. -/
def GrantResult.state : GrantResult → State
  | .granted s => s
  | .passed s => s

theorem sameSetup_tryInput (out : Port) (i : Fin 7) (s : State) : SameSetup s (tryInput out i s).state := by
  unfold tryInput
  split
  · split
    · exact SameSetup.refl s
    · exact sameSetup_grantNote _ _ s
  · split
    · exact SameSetup.refl s
    · split
      · exact sameSetup_grantHead _ _ _ _ s
      · split
        · exact (sameSetup_setEntry _ _ s).trans (sameSetup_grantHead _ _ _ _ _)
        · exact sameSetup_offerAnswer _ _ _ s
        · exact SameSetup.refl s

theorem sameSetup_tryInputs (out : Port) (is : List (Fin 7)) (s : State) : SameSetup s (tryInputs out is s) := by
  induction is generalizing s with
  | nil => exact SameSetup.refl s
  | cons i rest ih =>
    unfold tryInputs
    split
    · have h := sameSetup_tryInput out i s
      split
      · next t e => rw [e] at h; exact h
      · next t e => rw [e] at h; exact h.trans (ih t)
    · exact ih s

theorem sameSetup_sendReply (out : Port) (s : State) : SameSetup s (sendReply out s) := by
  unfold sendReply
  split
  · exact SameSetup.refl s
  · refine (sameSetup_beginParcel out _ _ s).trans
      ((sameSetup_modifyPort out _ _ fun r => ?_).trans (sameSetup_giveSlot out _))
    simp [PortRec.SameSetup]

theorem sameSetup_chooseNext (out : Port) (s : State) : SameSetup s (chooseNext out s) := by
  unfold chooseNext
  split
  · exact sameSetup_sendReply out s
  · split
    · exact sameSetup_tryInputs out _ s
    · exact sameSetup_beginParcel out _ _ s

theorem sameSetup_grantM (s : State) : SameSetup s (grantM s) := by
  unfold grantM
  split
  · exact SameSetup.refl s
  · split
    · exact SameSetup.refl s
    · rename_i x _ _ h _
      exact (sameSetup_popHead x s).trans
        (sameSetup_blocks _ (popHead x s).track (popHead x s).locks (.executing (directiveOf x h)) x
          (popHead x s).faultList.records (popHead x s).faultList.nextSeq (popHead x s).fltLow (popHead x s).alert
          (popHead x s).freeUsed)

theorem sameSetup_placeReply (s : State) : SameSetup s (placeReply s) := by
  unfold placeReply
  split
  · exact (sameSetup_admitClaimant _ _ _ s).trans (sameSetup_mgmt _ _)
  · exact SameSetup.refl s

/-- No internal action changes the setup of the router. -/
theorem sameSetup_doInternal (a : Internal) (s : State) : SameSetup s (doInternal a s) := by
  cases a with
  | examine x => exact sameSetup_examineHead x s
  | reexamine x => exact sameSetup_reexamineHead x s
  | placeReply => exact sameSetup_placeReply s
  | grantM => exact sameSetup_grantM s
  | choose x => exact sameSetup_chooseNext x s

end Sys2Proof.Machine
end

