-- ==== Sys2Proof/Laws/Link.lean ====
section
/-! SUPPORT. The inductions over the parts of a link loss and over a list of deferred actions, each once: what every part
keeps, the whole keeps. -/

namespace Sys2Proof.Machine

open Sys2Proof

/-- What the break of one record keeps, the break of all records of a port keeps (R115). -/
theorem breakHeldBy_keeps (P : State → Prop) (x : Port) (cause : BreakCause) (s : State) (h : P s)
    (keep : ∀ (r : Fin 4) (u : State), P u → P (breakRecord cause r u)) : P (breakHeldBy x cause s) := by
  refine List.foldlRecOn _ _ h fun u hu r _ => ?_
  unfold breakIfHeldBy
  split
  · exact hu
  · split
    · exact keep r u hu
    · exact hu

/-- What the notice of a link loss keeps at each entry, it keeps at the whole Tracking Table (5.9). -/
theorem lossAtTracking_keeps (P : State → Prop) (x : Port) (s : State) (h : P s)
    (keep : ∀ (i : Fin 64) (u : State), P u → P (lossAtEntry x u i)) : P (lossAtTracking x s) :=
  List.foldlRecOn _ _ h fun u hu i _ => keep i u hu

/-- What every deferred action keeps, a list of them keeps, with all that they set off (R136, R137, R138). -/
theorem takeActions_keeps (P : State → Prop) (work : List PendingAction) (s : State) (h : P s)
    (reset : ∀ u, P u → P (warmReset u)) (move : ∀ n u, P u → P (moveNode n u))
    (disable : ∀ q u, P u → P (disablePort q u).1) (restart : ∀ q u, P u → P (restartPort q u).1) :
    P (takeActions work s) := by
  unfold takeActions
  generalize work.length + s.actions.length + 1 = n
  induction n generalizing work s with
  | zero => exact h
  | succ n ih =>
    cases work with
    | nil => exact h
    | cons a rest =>
      unfold runActions
      split
      · exact reset s h
      · exact ih rest _ (move _ s h)
      · exact ih _ _ (disable _ s h)
      · exact ih _ _ (restart _ s h)

/-- The actions of a port and the others are all the pending actions: the bound of `runActions` counts each once. -/
theorem actionsOf_length (x : Port) (s : State) :
    (actionsOf x s).length + (s.actions.filter fun a => a.origin != x).length = s.actions.length := by
  have h := List.length_eq_length_filter_add (l := s.actions) (fun a => a.origin == x)
  simpa [actionsOf, bne] using h.symm

end Sys2Proof.Machine
end

