-- ==== Sys2Proof/Laws/Ops.lean ====
section
/-! SUPPORT. What each shared operation can do, said once: the fields it leaves unchanged, tagged for simp, and the values
of those it changes. -/

namespace Sys2Proof.Machine

open Sys2Proof

/-! ### `routeCheck` -/

@[simp] theorem routeCheck_pending (s : State) : (routeCheck s).pending = s.pending := by
  unfold routeCheck; (repeat' split) <;> rfl

@[simp] theorem routeCheck_resetLow (s : State) : (routeCheck s).resetLow = s.resetLow := by
  unfold routeCheck; (repeat' split) <;> rfl

@[simp] theorem routeCheck_fltLow (s : State) : (routeCheck s).fltLow = s.fltLow := by
  unfold routeCheck; (repeat' split) <;> rfl

@[simp] theorem routeCheck_time (s : State) : (routeCheck s).time = s.time := by
  unfold routeCheck; (repeat' split) <;> rfl

@[simp] theorem routeCheck_node (s : State) : (routeCheck s).node = s.node := by
  unfold routeCheck; (repeat' split) <;> rfl

@[simp] theorem routeCheck_nodeTable (s : State) : (routeCheck s).nodeTable = s.nodeTable := by
  unfold routeCheck; (repeat' split) <;> rfl

@[simp] theorem routeCheck_ports (s : State) : (routeCheck s).ports = s.ports := by
  unfold routeCheck; (repeat' split) <;> rfl

@[simp] theorem routeCheck_mPointer (s : State) : (routeCheck s).mPointer = s.mPointer := by
  unfold routeCheck; (repeat' split) <;> rfl

@[simp] theorem routeCheck_windows (s : State) : (routeCheck s).windows = s.windows := by
  unfold routeCheck; (repeat' split) <;> rfl

@[simp] theorem routeCheck_track (s : State) : (routeCheck s).track = s.track := by
  unfold routeCheck; (repeat' split) <;> rfl

@[simp] theorem routeCheck_locks (s : State) : (routeCheck s).locks = s.locks := by
  unfold routeCheck; (repeat' split) <;> rfl

@[simp] theorem routeCheck_mgmt (s : State) : (routeCheck s).mgmt = s.mgmt := by
  unfold routeCheck; (repeat' split) <;> rfl

@[simp] theorem routeCheck_actions (s : State) : (routeCheck s).actions = s.actions := by
  unfold routeCheck; (repeat' split) <;> rfl

@[simp] theorem routeCheck_manager (s : State) : (routeCheck s).manager = s.manager := by
  unfold routeCheck; (repeat' split) <;> rfl

@[simp] theorem routeCheck_settings (s : State) : (routeCheck s).settings = s.settings := by
  unfold routeCheck; (repeat' split) <;> rfl

@[simp] theorem routeCheck_faultList (s : State) : (routeCheck s).faultList = s.faultList := by
  unfold routeCheck; (repeat' split) <;> rfl

@[simp] theorem routeCheck_freeUsed (s : State) : (routeCheck s).freeUsed = s.freeUsed := by
  unfold routeCheck; (repeat' split) <;> rfl

@[simp] theorem routeCheck_port (s : State) (q : Port) : (routeCheck s).port q = s.port q := by
  simp [State.port]

/-- The route check changes nothing while no alert is pending, or while a note is queued (R178). -/
theorem routeCheck_idle {s : State} (h : s.alert.pending = false ∨ s.alert.queued.isSome = true) : routeCheck s = s := by
  unfold routeCheck
  rcases h with h | h
  · simp [h]
  · cases hq : s.alert.queued <;> simp_all

/-- The route check of a pending alert with a route builds and queues the note (R178). -/
theorem routeCheck_found {s : State} {n : Node} {p : Port} (hp : s.alert.pending = true) (hq : s.alert.queued = none)
    (hr : alertRoute s = some (n, p)) :
    routeCheck s =
      { s with alert := { s.alert with pending := false, queued := some ⟨p, buildNote n s, false⟩ } } := by
  simp [routeCheck, hp, hq, hr]

/-- Without a route the alert stays pending (R178). -/
theorem routeCheck_none {s : State} (hr : alertRoute s = none) : routeCheck s = s := by
  simp [routeCheck, hr]

/-! ### `setPendingAlert` -/

@[simp] theorem setPendingAlert_pending (s : State) : (setPendingAlert s).pending = s.pending := by
  unfold setPendingAlert; split <;> simp

@[simp] theorem setPendingAlert_resetLow (s : State) : (setPendingAlert s).resetLow = s.resetLow := by
  unfold setPendingAlert; split <;> simp

@[simp] theorem setPendingAlert_fltLow (s : State) : (setPendingAlert s).fltLow = s.fltLow := by
  unfold setPendingAlert; split <;> simp

@[simp] theorem setPendingAlert_time (s : State) : (setPendingAlert s).time = s.time := by
  unfold setPendingAlert; split <;> simp

@[simp] theorem setPendingAlert_node (s : State) : (setPendingAlert s).node = s.node := by
  unfold setPendingAlert; split <;> simp

@[simp] theorem setPendingAlert_nodeTable (s : State) : (setPendingAlert s).nodeTable = s.nodeTable := by
  unfold setPendingAlert; split <;> simp

@[simp] theorem setPendingAlert_ports (s : State) : (setPendingAlert s).ports = s.ports := by
  unfold setPendingAlert; split <;> simp

@[simp] theorem setPendingAlert_mPointer (s : State) : (setPendingAlert s).mPointer = s.mPointer := by
  unfold setPendingAlert; split <;> simp

@[simp] theorem setPendingAlert_windows (s : State) : (setPendingAlert s).windows = s.windows := by
  unfold setPendingAlert; split <;> simp

@[simp] theorem setPendingAlert_track (s : State) : (setPendingAlert s).track = s.track := by
  unfold setPendingAlert; split <;> simp

@[simp] theorem setPendingAlert_locks (s : State) : (setPendingAlert s).locks = s.locks := by
  unfold setPendingAlert; split <;> simp

@[simp] theorem setPendingAlert_mgmt (s : State) : (setPendingAlert s).mgmt = s.mgmt := by
  unfold setPendingAlert; split <;> simp

@[simp] theorem setPendingAlert_actions (s : State) : (setPendingAlert s).actions = s.actions := by
  unfold setPendingAlert; split <;> simp

@[simp] theorem setPendingAlert_manager (s : State) : (setPendingAlert s).manager = s.manager := by
  unfold setPendingAlert; split <;> simp

@[simp] theorem setPendingAlert_settings (s : State) : (setPendingAlert s).settings = s.settings := by
  unfold setPendingAlert; split <;> simp

@[simp] theorem setPendingAlert_faultList (s : State) : (setPendingAlert s).faultList = s.faultList := by
  unfold setPendingAlert; split <;> simp

@[simp] theorem setPendingAlert_freeUsed (s : State) : (setPendingAlert s).freeUsed = s.freeUsed := by
  unfold setPendingAlert; split <;> simp

@[simp] theorem setPendingAlert_port (s : State) (q : Port) : (setPendingAlert s).port q = s.port q := by
  simp [State.port]

/-! ### `raiseAlert` -/

@[simp] theorem raiseAlert_pending (s : State) : (raiseAlert s).pending = s.pending := by
  unfold raiseAlert; split <;> simp

@[simp] theorem raiseAlert_resetLow (s : State) : (raiseAlert s).resetLow = s.resetLow := by
  unfold raiseAlert; split <;> simp

@[simp] theorem raiseAlert_fltLow (s : State) : (raiseAlert s).fltLow = s.fltLow := by
  unfold raiseAlert; split <;> simp

@[simp] theorem raiseAlert_time (s : State) : (raiseAlert s).time = s.time := by
  unfold raiseAlert; split <;> simp

@[simp] theorem raiseAlert_node (s : State) : (raiseAlert s).node = s.node := by
  unfold raiseAlert; split <;> simp

@[simp] theorem raiseAlert_nodeTable (s : State) : (raiseAlert s).nodeTable = s.nodeTable := by
  unfold raiseAlert; split <;> simp

@[simp] theorem raiseAlert_ports (s : State) : (raiseAlert s).ports = s.ports := by
  unfold raiseAlert; split <;> simp

@[simp] theorem raiseAlert_mPointer (s : State) : (raiseAlert s).mPointer = s.mPointer := by
  unfold raiseAlert; split <;> simp

@[simp] theorem raiseAlert_windows (s : State) : (raiseAlert s).windows = s.windows := by
  unfold raiseAlert; split <;> simp

@[simp] theorem raiseAlert_track (s : State) : (raiseAlert s).track = s.track := by
  unfold raiseAlert; split <;> simp

@[simp] theorem raiseAlert_locks (s : State) : (raiseAlert s).locks = s.locks := by
  unfold raiseAlert; split <;> simp

@[simp] theorem raiseAlert_mgmt (s : State) : (raiseAlert s).mgmt = s.mgmt := by
  unfold raiseAlert; split <;> simp

@[simp] theorem raiseAlert_actions (s : State) : (raiseAlert s).actions = s.actions := by
  unfold raiseAlert; split <;> simp

@[simp] theorem raiseAlert_manager (s : State) : (raiseAlert s).manager = s.manager := by
  unfold raiseAlert; split <;> simp

@[simp] theorem raiseAlert_settings (s : State) : (raiseAlert s).settings = s.settings := by
  unfold raiseAlert; split <;> simp

@[simp] theorem raiseAlert_faultList (s : State) : (raiseAlert s).faultList = s.faultList := by
  unfold raiseAlert; split <;> simp

@[simp] theorem raiseAlert_freeUsed (s : State) : (raiseAlert s).freeUsed = s.freeUsed := by
  unfold raiseAlert; split <;> simp

@[simp] theorem raiseAlert_port (s : State) (q : Port) : (raiseAlert s).port q = s.port q := by
  simp [State.port]

/-- With the flag clear or the alert node none, a kept record raises nothing (R177). -/
theorem raiseAlert_off {s : State} (h : s.alert.armed = false ∨ s.settings.alertNode = none) : raiseAlert s = s := by
  unfold raiseAlert
  rcases h with h | h <;> simp [h]

/-! ### `withdrawNote` -/

@[simp] theorem withdrawNote_pending (s : State) : (withdrawNote s).pending = s.pending := by
  unfold withdrawNote; split <;> rfl

@[simp] theorem withdrawNote_resetLow (s : State) : (withdrawNote s).resetLow = s.resetLow := by
  unfold withdrawNote; split <;> rfl

@[simp] theorem withdrawNote_fltLow (s : State) : (withdrawNote s).fltLow = s.fltLow := by
  unfold withdrawNote; split <;> rfl

@[simp] theorem withdrawNote_time (s : State) : (withdrawNote s).time = s.time := by
  unfold withdrawNote; split <;> rfl

@[simp] theorem withdrawNote_node (s : State) : (withdrawNote s).node = s.node := by
  unfold withdrawNote; split <;> rfl

@[simp] theorem withdrawNote_nodeTable (s : State) : (withdrawNote s).nodeTable = s.nodeTable := by
  unfold withdrawNote; split <;> rfl

@[simp] theorem withdrawNote_ports (s : State) : (withdrawNote s).ports = s.ports := by
  unfold withdrawNote; split <;> rfl

@[simp] theorem withdrawNote_mPointer (s : State) : (withdrawNote s).mPointer = s.mPointer := by
  unfold withdrawNote; split <;> rfl

@[simp] theorem withdrawNote_windows (s : State) : (withdrawNote s).windows = s.windows := by
  unfold withdrawNote; split <;> rfl

@[simp] theorem withdrawNote_track (s : State) : (withdrawNote s).track = s.track := by
  unfold withdrawNote; split <;> rfl

@[simp] theorem withdrawNote_locks (s : State) : (withdrawNote s).locks = s.locks := by
  unfold withdrawNote; split <;> rfl

@[simp] theorem withdrawNote_mgmt (s : State) : (withdrawNote s).mgmt = s.mgmt := by
  unfold withdrawNote; split <;> rfl

@[simp] theorem withdrawNote_actions (s : State) : (withdrawNote s).actions = s.actions := by
  unfold withdrawNote; split <;> rfl

@[simp] theorem withdrawNote_manager (s : State) : (withdrawNote s).manager = s.manager := by
  unfold withdrawNote; split <;> rfl

@[simp] theorem withdrawNote_settings (s : State) : (withdrawNote s).settings = s.settings := by
  unfold withdrawNote; split <;> rfl

@[simp] theorem withdrawNote_faultList (s : State) : (withdrawNote s).faultList = s.faultList := by
  unfold withdrawNote; split <;> rfl

@[simp] theorem withdrawNote_freeUsed (s : State) : (withdrawNote s).freeUsed = s.freeUsed := by
  unfold withdrawNote; split <;> rfl

@[simp] theorem withdrawNote_port (s : State) (q : Port) : (withdrawNote s).port q = s.port q := by
  simp [State.port]

/-! ### `raiseFault` -/

@[simp] theorem raiseFault_pending (r : FaultReport) (s : State) : (raiseFault r s).pending = s.pending := by
  unfold raiseFault; dsimp only; split <;> simp

@[simp] theorem raiseFault_resetLow (r : FaultReport) (s : State) : (raiseFault r s).resetLow = s.resetLow := by
  unfold raiseFault; dsimp only; split <;> simp

@[simp] theorem raiseFault_time (r : FaultReport) (s : State) : (raiseFault r s).time = s.time := by
  unfold raiseFault; dsimp only; split <;> simp

@[simp] theorem raiseFault_node (r : FaultReport) (s : State) : (raiseFault r s).node = s.node := by
  unfold raiseFault; dsimp only; split <;> simp

@[simp] theorem raiseFault_nodeTable (r : FaultReport) (s : State) : (raiseFault r s).nodeTable = s.nodeTable := by
  unfold raiseFault; dsimp only; split <;> simp

@[simp] theorem raiseFault_ports (r : FaultReport) (s : State) : (raiseFault r s).ports = s.ports := by
  unfold raiseFault; dsimp only; split <;> simp

@[simp] theorem raiseFault_mPointer (r : FaultReport) (s : State) : (raiseFault r s).mPointer = s.mPointer := by
  unfold raiseFault; dsimp only; split <;> simp

@[simp] theorem raiseFault_windows (r : FaultReport) (s : State) : (raiseFault r s).windows = s.windows := by
  unfold raiseFault; dsimp only; split <;> simp

@[simp] theorem raiseFault_track (r : FaultReport) (s : State) : (raiseFault r s).track = s.track := by
  unfold raiseFault; dsimp only; split <;> simp

@[simp] theorem raiseFault_locks (r : FaultReport) (s : State) : (raiseFault r s).locks = s.locks := by
  unfold raiseFault; dsimp only; split <;> simp

@[simp] theorem raiseFault_mgmt (r : FaultReport) (s : State) : (raiseFault r s).mgmt = s.mgmt := by
  unfold raiseFault; dsimp only; split <;> simp

@[simp] theorem raiseFault_actions (r : FaultReport) (s : State) : (raiseFault r s).actions = s.actions := by
  unfold raiseFault; dsimp only; split <;> simp

@[simp] theorem raiseFault_manager (r : FaultReport) (s : State) : (raiseFault r s).manager = s.manager := by
  unfold raiseFault; dsimp only; split <;> simp

@[simp] theorem raiseFault_settings (r : FaultReport) (s : State) : (raiseFault r s).settings = s.settings := by
  unfold raiseFault; dsimp only; split <;> simp

@[simp] theorem raiseFault_freeUsed (r : FaultReport) (s : State) : (raiseFault r s).freeUsed = s.freeUsed := by
  unfold raiseFault; dsimp only; split <;> simp

@[simp] theorem raiseFault_port (r : FaultReport) (s : State) (q : Port) : (raiseFault r s).port q = s.port q := by
  simp [State.port]

/-- Every raised fault takes the next sequence number, whether or not it is kept (R168). -/
theorem raiseFault_faultList (r : FaultReport) (s : State) :
    (raiseFault r s).faultList =
      { records := keepRecord s.faultList.policy s.faultList.records ⟨s.faultList.nextSeq, s.time, r⟩
        nextSeq := s.faultList.nextSeq + 1#16, policy := s.faultList.policy } := by
  unfold raiseFault
  dsimp only
  split <;> simp [faultRecord]

/-- A kept record drives FLT# low (R170). -/
theorem raiseFault_fltLow (r : FaultReport) (s : State) :
    (raiseFault r s).fltLow = (s.fltLow || isKept s.faultList.policy s.faultList.records) := by
  unfold raiseFault
  dsimp only
  split <;> simp

/-- A fault that is not kept raises no alert (R169, R177). -/
theorem raiseFault_alert_not_kept {r : FaultReport} {s : State}
    (h : isKept s.faultList.policy s.faultList.records = false) : (raiseFault r s).alert = s.alert := by
  simp [raiseFault, h]

/-! ### `popHead` -/

@[simp] theorem popHead_pending (p : Port) (s : State) : (popHead p s).pending = s.pending := by
  rfl

@[simp] theorem popHead_resetLow (p : Port) (s : State) : (popHead p s).resetLow = s.resetLow := by
  rfl

@[simp] theorem popHead_fltLow (p : Port) (s : State) : (popHead p s).fltLow = s.fltLow := by
  rfl

@[simp] theorem popHead_time (p : Port) (s : State) : (popHead p s).time = s.time := by
  rfl

@[simp] theorem popHead_node (p : Port) (s : State) : (popHead p s).node = s.node := by
  rfl

@[simp] theorem popHead_nodeTable (p : Port) (s : State) : (popHead p s).nodeTable = s.nodeTable := by
  rfl

@[simp] theorem popHead_mPointer (p : Port) (s : State) : (popHead p s).mPointer = s.mPointer := by
  rfl

@[simp] theorem popHead_windows (p : Port) (s : State) : (popHead p s).windows = s.windows := by
  rfl

@[simp] theorem popHead_track (p : Port) (s : State) : (popHead p s).track = s.track := by
  rfl

@[simp] theorem popHead_locks (p : Port) (s : State) : (popHead p s).locks = s.locks := by
  rfl

@[simp] theorem popHead_mgmt (p : Port) (s : State) : (popHead p s).mgmt = s.mgmt := by
  rfl

@[simp] theorem popHead_actions (p : Port) (s : State) : (popHead p s).actions = s.actions := by
  rfl

@[simp] theorem popHead_manager (p : Port) (s : State) : (popHead p s).manager = s.manager := by
  rfl

@[simp] theorem popHead_settings (p : Port) (s : State) : (popHead p s).settings = s.settings := by
  rfl

@[simp] theorem popHead_faultList (p : Port) (s : State) : (popHead p s).faultList = s.faultList := by
  rfl

@[simp] theorem popHead_alert (p : Port) (s : State) : (popHead p s).alert = s.alert := by
  rfl

@[simp] theorem popHead_freeUsed (p : Port) (s : State) : (popHead p s).freeUsed = s.freeUsed := by
  rfl

/-! ### `popReply` -/

@[simp] theorem popReply_pending (p : Port) (s : State) : (popReply p s).pending = s.pending := by
  rfl

@[simp] theorem popReply_resetLow (p : Port) (s : State) : (popReply p s).resetLow = s.resetLow := by
  rfl

@[simp] theorem popReply_fltLow (p : Port) (s : State) : (popReply p s).fltLow = s.fltLow := by
  rfl

@[simp] theorem popReply_time (p : Port) (s : State) : (popReply p s).time = s.time := by
  rfl

@[simp] theorem popReply_node (p : Port) (s : State) : (popReply p s).node = s.node := by
  rfl

@[simp] theorem popReply_nodeTable (p : Port) (s : State) : (popReply p s).nodeTable = s.nodeTable := by
  rfl

@[simp] theorem popReply_mPointer (p : Port) (s : State) : (popReply p s).mPointer = s.mPointer := by
  rfl

@[simp] theorem popReply_windows (p : Port) (s : State) : (popReply p s).windows = s.windows := by
  rfl

@[simp] theorem popReply_track (p : Port) (s : State) : (popReply p s).track = s.track := by
  rfl

@[simp] theorem popReply_locks (p : Port) (s : State) : (popReply p s).locks = s.locks := by
  rfl

@[simp] theorem popReply_mgmt (p : Port) (s : State) : (popReply p s).mgmt = s.mgmt := by
  rfl

@[simp] theorem popReply_actions (p : Port) (s : State) : (popReply p s).actions = s.actions := by
  rfl

@[simp] theorem popReply_manager (p : Port) (s : State) : (popReply p s).manager = s.manager := by
  rfl

@[simp] theorem popReply_settings (p : Port) (s : State) : (popReply p s).settings = s.settings := by
  rfl

@[simp] theorem popReply_faultList (p : Port) (s : State) : (popReply p s).faultList = s.faultList := by
  rfl

@[simp] theorem popReply_alert (p : Port) (s : State) : (popReply p s).alert = s.alert := by
  rfl

@[simp] theorem popReply_freeUsed (p : Port) (s : State) : (popReply p s).freeUsed = s.freeUsed := by
  rfl

/-! ### `takeCredits` -/

@[simp] theorem takeCredits_pending (p : Port) (c : Credits) (s : State) : (takeCredits p c s).pending = s.pending := by
  rfl

@[simp] theorem takeCredits_resetLow (p : Port) (c : Credits) (s : State) : (takeCredits p c s).resetLow = s.resetLow := by
  rfl

@[simp] theorem takeCredits_fltLow (p : Port) (c : Credits) (s : State) : (takeCredits p c s).fltLow = s.fltLow := by
  rfl

@[simp] theorem takeCredits_time (p : Port) (c : Credits) (s : State) : (takeCredits p c s).time = s.time := by
  rfl

@[simp] theorem takeCredits_node (p : Port) (c : Credits) (s : State) : (takeCredits p c s).node = s.node := by
  rfl

@[simp] theorem takeCredits_nodeTable (p : Port) (c : Credits) (s : State) : (takeCredits p c s).nodeTable = s.nodeTable := by
  rfl

@[simp] theorem takeCredits_mPointer (p : Port) (c : Credits) (s : State) : (takeCredits p c s).mPointer = s.mPointer := by
  rfl

@[simp] theorem takeCredits_windows (p : Port) (c : Credits) (s : State) : (takeCredits p c s).windows = s.windows := by
  rfl

@[simp] theorem takeCredits_track (p : Port) (c : Credits) (s : State) : (takeCredits p c s).track = s.track := by
  rfl

@[simp] theorem takeCredits_locks (p : Port) (c : Credits) (s : State) : (takeCredits p c s).locks = s.locks := by
  rfl

@[simp] theorem takeCredits_mgmt (p : Port) (c : Credits) (s : State) : (takeCredits p c s).mgmt = s.mgmt := by
  rfl

@[simp] theorem takeCredits_actions (p : Port) (c : Credits) (s : State) : (takeCredits p c s).actions = s.actions := by
  rfl

@[simp] theorem takeCredits_manager (p : Port) (c : Credits) (s : State) : (takeCredits p c s).manager = s.manager := by
  rfl

@[simp] theorem takeCredits_settings (p : Port) (c : Credits) (s : State) : (takeCredits p c s).settings = s.settings := by
  rfl

@[simp] theorem takeCredits_faultList (p : Port) (c : Credits) (s : State) : (takeCredits p c s).faultList = s.faultList := by
  rfl

@[simp] theorem takeCredits_alert (p : Port) (c : Credits) (s : State) : (takeCredits p c s).alert = s.alert := by
  rfl

@[simp] theorem takeCredits_freeUsed (p : Port) (c : Credits) (s : State) : (takeCredits p c s).freeUsed = s.freeUsed := by
  rfl

/-! ### `beginParcel` -/

@[simp] theorem beginParcel_pending (p : Port) (x : Parcel) (b : Bool) (s : State) : (beginParcel p x b s).pending = s.pending := by
  rfl

@[simp] theorem beginParcel_resetLow (p : Port) (x : Parcel) (b : Bool) (s : State) : (beginParcel p x b s).resetLow = s.resetLow := by
  rfl

@[simp] theorem beginParcel_fltLow (p : Port) (x : Parcel) (b : Bool) (s : State) : (beginParcel p x b s).fltLow = s.fltLow := by
  rfl

@[simp] theorem beginParcel_time (p : Port) (x : Parcel) (b : Bool) (s : State) : (beginParcel p x b s).time = s.time := by
  rfl

@[simp] theorem beginParcel_node (p : Port) (x : Parcel) (b : Bool) (s : State) : (beginParcel p x b s).node = s.node := by
  rfl

@[simp] theorem beginParcel_nodeTable (p : Port) (x : Parcel) (b : Bool) (s : State) : (beginParcel p x b s).nodeTable = s.nodeTable := by
  rfl

@[simp] theorem beginParcel_mPointer (p : Port) (x : Parcel) (b : Bool) (s : State) : (beginParcel p x b s).mPointer = s.mPointer := by
  rfl

@[simp] theorem beginParcel_windows (p : Port) (x : Parcel) (b : Bool) (s : State) : (beginParcel p x b s).windows = s.windows := by
  rfl

@[simp] theorem beginParcel_track (p : Port) (x : Parcel) (b : Bool) (s : State) : (beginParcel p x b s).track = s.track := by
  rfl

@[simp] theorem beginParcel_locks (p : Port) (x : Parcel) (b : Bool) (s : State) : (beginParcel p x b s).locks = s.locks := by
  rfl

@[simp] theorem beginParcel_mgmt (p : Port) (x : Parcel) (b : Bool) (s : State) : (beginParcel p x b s).mgmt = s.mgmt := by
  rfl

@[simp] theorem beginParcel_actions (p : Port) (x : Parcel) (b : Bool) (s : State) : (beginParcel p x b s).actions = s.actions := by
  rfl

@[simp] theorem beginParcel_manager (p : Port) (x : Parcel) (b : Bool) (s : State) : (beginParcel p x b s).manager = s.manager := by
  rfl

@[simp] theorem beginParcel_settings (p : Port) (x : Parcel) (b : Bool) (s : State) : (beginParcel p x b s).settings = s.settings := by
  rfl

@[simp] theorem beginParcel_faultList (p : Port) (x : Parcel) (b : Bool) (s : State) : (beginParcel p x b s).faultList = s.faultList := by
  rfl

@[simp] theorem beginParcel_alert (p : Port) (x : Parcel) (b : Bool) (s : State) : (beginParcel p x b s).alert = s.alert := by
  rfl

@[simp] theorem beginParcel_freeUsed (p : Port) (x : Parcel) (b : Bool) (s : State) : (beginParcel p x b s).freeUsed = s.freeUsed := by
  rfl

/-! ### `sendHello` -/

@[simp] theorem sendHello_pending (p : Port) (s : State) : (sendHello p s).pending = s.pending := by
  rfl

@[simp] theorem sendHello_resetLow (p : Port) (s : State) : (sendHello p s).resetLow = s.resetLow := by
  rfl

@[simp] theorem sendHello_fltLow (p : Port) (s : State) : (sendHello p s).fltLow = s.fltLow := by
  rfl

@[simp] theorem sendHello_time (p : Port) (s : State) : (sendHello p s).time = s.time := by
  rfl

@[simp] theorem sendHello_node (p : Port) (s : State) : (sendHello p s).node = s.node := by
  rfl

@[simp] theorem sendHello_nodeTable (p : Port) (s : State) : (sendHello p s).nodeTable = s.nodeTable := by
  rfl

@[simp] theorem sendHello_mPointer (p : Port) (s : State) : (sendHello p s).mPointer = s.mPointer := by
  rfl

@[simp] theorem sendHello_windows (p : Port) (s : State) : (sendHello p s).windows = s.windows := by
  rfl

@[simp] theorem sendHello_track (p : Port) (s : State) : (sendHello p s).track = s.track := by
  rfl

@[simp] theorem sendHello_locks (p : Port) (s : State) : (sendHello p s).locks = s.locks := by
  rfl

@[simp] theorem sendHello_mgmt (p : Port) (s : State) : (sendHello p s).mgmt = s.mgmt := by
  rfl

@[simp] theorem sendHello_actions (p : Port) (s : State) : (sendHello p s).actions = s.actions := by
  rfl

@[simp] theorem sendHello_manager (p : Port) (s : State) : (sendHello p s).manager = s.manager := by
  rfl

@[simp] theorem sendHello_settings (p : Port) (s : State) : (sendHello p s).settings = s.settings := by
  rfl

@[simp] theorem sendHello_faultList (p : Port) (s : State) : (sendHello p s).faultList = s.faultList := by
  rfl

@[simp] theorem sendHello_alert (p : Port) (s : State) : (sendHello p s).alert = s.alert := by
  rfl

@[simp] theorem sendHello_freeUsed (p : Port) (s : State) : (sendHello p s).freeUsed = s.freeUsed := by
  rfl

/-! ### `nextHello` -/

@[simp] theorem nextHello_pending (p : Port) (s : State) : (nextHello p s).pending = s.pending := by
  rfl

@[simp] theorem nextHello_resetLow (p : Port) (s : State) : (nextHello p s).resetLow = s.resetLow := by
  rfl

@[simp] theorem nextHello_fltLow (p : Port) (s : State) : (nextHello p s).fltLow = s.fltLow := by
  rfl

@[simp] theorem nextHello_time (p : Port) (s : State) : (nextHello p s).time = s.time := by
  rfl

@[simp] theorem nextHello_node (p : Port) (s : State) : (nextHello p s).node = s.node := by
  rfl

@[simp] theorem nextHello_nodeTable (p : Port) (s : State) : (nextHello p s).nodeTable = s.nodeTable := by
  rfl

@[simp] theorem nextHello_mPointer (p : Port) (s : State) : (nextHello p s).mPointer = s.mPointer := by
  rfl

@[simp] theorem nextHello_windows (p : Port) (s : State) : (nextHello p s).windows = s.windows := by
  rfl

@[simp] theorem nextHello_track (p : Port) (s : State) : (nextHello p s).track = s.track := by
  rfl

@[simp] theorem nextHello_locks (p : Port) (s : State) : (nextHello p s).locks = s.locks := by
  rfl

@[simp] theorem nextHello_mgmt (p : Port) (s : State) : (nextHello p s).mgmt = s.mgmt := by
  rfl

@[simp] theorem nextHello_actions (p : Port) (s : State) : (nextHello p s).actions = s.actions := by
  rfl

@[simp] theorem nextHello_manager (p : Port) (s : State) : (nextHello p s).manager = s.manager := by
  rfl

@[simp] theorem nextHello_settings (p : Port) (s : State) : (nextHello p s).settings = s.settings := by
  rfl

@[simp] theorem nextHello_faultList (p : Port) (s : State) : (nextHello p s).faultList = s.faultList := by
  rfl

@[simp] theorem nextHello_alert (p : Port) (s : State) : (nextHello p s).alert = s.alert := by
  rfl

@[simp] theorem nextHello_freeUsed (p : Port) (s : State) : (nextHello p s).freeUsed = s.freeUsed := by
  rfl

/-! ### `beginAttempt` -/

@[simp] theorem beginAttempt_pending (p : Port) (s : State) : (beginAttempt p s).pending = s.pending := by
  rfl

@[simp] theorem beginAttempt_resetLow (p : Port) (s : State) : (beginAttempt p s).resetLow = s.resetLow := by
  rfl

@[simp] theorem beginAttempt_fltLow (p : Port) (s : State) : (beginAttempt p s).fltLow = s.fltLow := by
  rfl

@[simp] theorem beginAttempt_time (p : Port) (s : State) : (beginAttempt p s).time = s.time := by
  rfl

@[simp] theorem beginAttempt_node (p : Port) (s : State) : (beginAttempt p s).node = s.node := by
  rfl

@[simp] theorem beginAttempt_nodeTable (p : Port) (s : State) : (beginAttempt p s).nodeTable = s.nodeTable := by
  rfl

@[simp] theorem beginAttempt_mPointer (p : Port) (s : State) : (beginAttempt p s).mPointer = s.mPointer := by
  rfl

@[simp] theorem beginAttempt_windows (p : Port) (s : State) : (beginAttempt p s).windows = s.windows := by
  rfl

@[simp] theorem beginAttempt_track (p : Port) (s : State) : (beginAttempt p s).track = s.track := by
  rfl

@[simp] theorem beginAttempt_locks (p : Port) (s : State) : (beginAttempt p s).locks = s.locks := by
  rfl

@[simp] theorem beginAttempt_mgmt (p : Port) (s : State) : (beginAttempt p s).mgmt = s.mgmt := by
  rfl

@[simp] theorem beginAttempt_actions (p : Port) (s : State) : (beginAttempt p s).actions = s.actions := by
  rfl

@[simp] theorem beginAttempt_manager (p : Port) (s : State) : (beginAttempt p s).manager = s.manager := by
  rfl

@[simp] theorem beginAttempt_settings (p : Port) (s : State) : (beginAttempt p s).settings = s.settings := by
  rfl

@[simp] theorem beginAttempt_faultList (p : Port) (s : State) : (beginAttempt p s).faultList = s.faultList := by
  rfl

@[simp] theorem beginAttempt_alert (p : Port) (s : State) : (beginAttempt p s).alert = s.alert := by
  rfl

@[simp] theorem beginAttempt_freeUsed (p : Port) (s : State) : (beginAttempt p s).freeUsed = s.freeUsed := by
  rfl

/-! ### `enterTraining` -/

@[simp] theorem enterTraining_pending (p : Port) (s : State) : (enterTraining p s).pending = s.pending := by
  simp [enterTraining]

@[simp] theorem enterTraining_resetLow (p : Port) (s : State) : (enterTraining p s).resetLow = s.resetLow := by
  simp [enterTraining]

@[simp] theorem enterTraining_fltLow (p : Port) (s : State) : (enterTraining p s).fltLow = s.fltLow := by
  simp [enterTraining]

@[simp] theorem enterTraining_time (p : Port) (s : State) : (enterTraining p s).time = s.time := by
  simp [enterTraining]

@[simp] theorem enterTraining_node (p : Port) (s : State) : (enterTraining p s).node = s.node := by
  simp [enterTraining]

@[simp] theorem enterTraining_nodeTable (p : Port) (s : State) : (enterTraining p s).nodeTable = s.nodeTable := by
  simp [enterTraining]

@[simp] theorem enterTraining_mPointer (p : Port) (s : State) : (enterTraining p s).mPointer = s.mPointer := by
  simp [enterTraining]

@[simp] theorem enterTraining_windows (p : Port) (s : State) : (enterTraining p s).windows = s.windows := by
  simp [enterTraining]

@[simp] theorem enterTraining_track (p : Port) (s : State) : (enterTraining p s).track = s.track := by
  simp [enterTraining]

@[simp] theorem enterTraining_locks (p : Port) (s : State) : (enterTraining p s).locks = s.locks := by
  simp [enterTraining]

@[simp] theorem enterTraining_mgmt (p : Port) (s : State) : (enterTraining p s).mgmt = s.mgmt := by
  simp [enterTraining]

@[simp] theorem enterTraining_actions (p : Port) (s : State) : (enterTraining p s).actions = s.actions := by
  simp [enterTraining]

@[simp] theorem enterTraining_manager (p : Port) (s : State) : (enterTraining p s).manager = s.manager := by
  simp [enterTraining]

@[simp] theorem enterTraining_settings (p : Port) (s : State) : (enterTraining p s).settings = s.settings := by
  simp [enterTraining]

@[simp] theorem enterTraining_faultList (p : Port) (s : State) : (enterTraining p s).faultList = s.faultList := by
  simp [enterTraining]

@[simp] theorem enterTraining_alert (p : Port) (s : State) : (enterTraining p s).alert = s.alert := by
  simp [enterTraining]

@[simp] theorem enterTraining_freeUsed (p : Port) (s : State) : (enterTraining p s).freeUsed = s.freeUsed := by
  simp [enterTraining]

/-! ### `enterOff` -/

@[simp] theorem enterOff_pending (p : Port) (s : State) : (enterOff p s).pending = s.pending := by
  rfl

@[simp] theorem enterOff_resetLow (p : Port) (s : State) : (enterOff p s).resetLow = s.resetLow := by
  rfl

@[simp] theorem enterOff_fltLow (p : Port) (s : State) : (enterOff p s).fltLow = s.fltLow := by
  rfl

@[simp] theorem enterOff_time (p : Port) (s : State) : (enterOff p s).time = s.time := by
  rfl

@[simp] theorem enterOff_node (p : Port) (s : State) : (enterOff p s).node = s.node := by
  rfl

@[simp] theorem enterOff_nodeTable (p : Port) (s : State) : (enterOff p s).nodeTable = s.nodeTable := by
  rfl

@[simp] theorem enterOff_mPointer (p : Port) (s : State) : (enterOff p s).mPointer = s.mPointer := by
  rfl

@[simp] theorem enterOff_windows (p : Port) (s : State) : (enterOff p s).windows = s.windows := by
  rfl

@[simp] theorem enterOff_track (p : Port) (s : State) : (enterOff p s).track = s.track := by
  rfl

@[simp] theorem enterOff_locks (p : Port) (s : State) : (enterOff p s).locks = s.locks := by
  rfl

@[simp] theorem enterOff_mgmt (p : Port) (s : State) : (enterOff p s).mgmt = s.mgmt := by
  rfl

@[simp] theorem enterOff_actions (p : Port) (s : State) : (enterOff p s).actions = s.actions := by
  rfl

@[simp] theorem enterOff_manager (p : Port) (s : State) : (enterOff p s).manager = s.manager := by
  rfl

@[simp] theorem enterOff_settings (p : Port) (s : State) : (enterOff p s).settings = s.settings := by
  rfl

@[simp] theorem enterOff_faultList (p : Port) (s : State) : (enterOff p s).faultList = s.faultList := by
  rfl

@[simp] theorem enterOff_alert (p : Port) (s : State) : (enterOff p s).alert = s.alert := by
  rfl

@[simp] theorem enterOff_freeUsed (p : Port) (s : State) : (enterOff p s).freeUsed = s.freeUsed := by
  rfl

/-! ### `enterHalted` -/

@[simp] theorem enterHalted_pending (p : Port) (s : State) : (enterHalted p s).pending = s.pending := by
  rfl

@[simp] theorem enterHalted_resetLow (p : Port) (s : State) : (enterHalted p s).resetLow = s.resetLow := by
  rfl

@[simp] theorem enterHalted_fltLow (p : Port) (s : State) : (enterHalted p s).fltLow = s.fltLow := by
  rfl

@[simp] theorem enterHalted_time (p : Port) (s : State) : (enterHalted p s).time = s.time := by
  rfl

@[simp] theorem enterHalted_node (p : Port) (s : State) : (enterHalted p s).node = s.node := by
  rfl

@[simp] theorem enterHalted_nodeTable (p : Port) (s : State) : (enterHalted p s).nodeTable = s.nodeTable := by
  rfl

@[simp] theorem enterHalted_mPointer (p : Port) (s : State) : (enterHalted p s).mPointer = s.mPointer := by
  rfl

@[simp] theorem enterHalted_windows (p : Port) (s : State) : (enterHalted p s).windows = s.windows := by
  rfl

@[simp] theorem enterHalted_track (p : Port) (s : State) : (enterHalted p s).track = s.track := by
  rfl

@[simp] theorem enterHalted_locks (p : Port) (s : State) : (enterHalted p s).locks = s.locks := by
  rfl

@[simp] theorem enterHalted_mgmt (p : Port) (s : State) : (enterHalted p s).mgmt = s.mgmt := by
  rfl

@[simp] theorem enterHalted_actions (p : Port) (s : State) : (enterHalted p s).actions = s.actions := by
  rfl

@[simp] theorem enterHalted_manager (p : Port) (s : State) : (enterHalted p s).manager = s.manager := by
  rfl

@[simp] theorem enterHalted_settings (p : Port) (s : State) : (enterHalted p s).settings = s.settings := by
  rfl

@[simp] theorem enterHalted_faultList (p : Port) (s : State) : (enterHalted p s).faultList = s.faultList := by
  rfl

@[simp] theorem enterHalted_alert (p : Port) (s : State) : (enterHalted p s).alert = s.alert := by
  rfl

@[simp] theorem enterHalted_freeUsed (p : Port) (s : State) : (enterHalted p s).freeUsed = s.freeUsed := by
  rfl

/-! ### `enqueueReply` -/

@[simp] theorem enqueueReply_pending (p : Port) (r : QueuedReply) (s : State) : (enqueueReply p r s).pending = s.pending := by
  rfl

@[simp] theorem enqueueReply_resetLow (p : Port) (r : QueuedReply) (s : State) : (enqueueReply p r s).resetLow = s.resetLow := by
  rfl

@[simp] theorem enqueueReply_fltLow (p : Port) (r : QueuedReply) (s : State) : (enqueueReply p r s).fltLow = s.fltLow := by
  rfl

@[simp] theorem enqueueReply_time (p : Port) (r : QueuedReply) (s : State) : (enqueueReply p r s).time = s.time := by
  rfl

@[simp] theorem enqueueReply_node (p : Port) (r : QueuedReply) (s : State) : (enqueueReply p r s).node = s.node := by
  rfl

@[simp] theorem enqueueReply_nodeTable (p : Port) (r : QueuedReply) (s : State) : (enqueueReply p r s).nodeTable = s.nodeTable := by
  rfl

@[simp] theorem enqueueReply_mPointer (p : Port) (r : QueuedReply) (s : State) : (enqueueReply p r s).mPointer = s.mPointer := by
  rfl

@[simp] theorem enqueueReply_windows (p : Port) (r : QueuedReply) (s : State) : (enqueueReply p r s).windows = s.windows := by
  rfl

@[simp] theorem enqueueReply_track (p : Port) (r : QueuedReply) (s : State) : (enqueueReply p r s).track = s.track := by
  rfl

@[simp] theorem enqueueReply_locks (p : Port) (r : QueuedReply) (s : State) : (enqueueReply p r s).locks = s.locks := by
  rfl

@[simp] theorem enqueueReply_mgmt (p : Port) (r : QueuedReply) (s : State) : (enqueueReply p r s).mgmt = s.mgmt := by
  rfl

@[simp] theorem enqueueReply_actions (p : Port) (r : QueuedReply) (s : State) : (enqueueReply p r s).actions = s.actions := by
  rfl

@[simp] theorem enqueueReply_manager (p : Port) (r : QueuedReply) (s : State) : (enqueueReply p r s).manager = s.manager := by
  rfl

@[simp] theorem enqueueReply_settings (p : Port) (r : QueuedReply) (s : State) : (enqueueReply p r s).settings = s.settings := by
  rfl

@[simp] theorem enqueueReply_faultList (p : Port) (r : QueuedReply) (s : State) : (enqueueReply p r s).faultList = s.faultList := by
  rfl

@[simp] theorem enqueueReply_alert (p : Port) (r : QueuedReply) (s : State) : (enqueueReply p r s).alert = s.alert := by
  rfl

@[simp] theorem enqueueReply_freeUsed (p : Port) (r : QueuedReply) (s : State) : (enqueueReply p r s).freeUsed = s.freeUsed := by
  rfl

/-! ### `admitClaimant` -/

@[simp] theorem admitClaimant_pending (p : Port) (c : Fin 8) (r : QueuedReply) (s : State) : (admitClaimant p c r s).pending = s.pending := by
  rfl

@[simp] theorem admitClaimant_resetLow (p : Port) (c : Fin 8) (r : QueuedReply) (s : State) : (admitClaimant p c r s).resetLow = s.resetLow := by
  rfl

@[simp] theorem admitClaimant_fltLow (p : Port) (c : Fin 8) (r : QueuedReply) (s : State) : (admitClaimant p c r s).fltLow = s.fltLow := by
  rfl

@[simp] theorem admitClaimant_time (p : Port) (c : Fin 8) (r : QueuedReply) (s : State) : (admitClaimant p c r s).time = s.time := by
  rfl

@[simp] theorem admitClaimant_node (p : Port) (c : Fin 8) (r : QueuedReply) (s : State) : (admitClaimant p c r s).node = s.node := by
  rfl

@[simp] theorem admitClaimant_nodeTable (p : Port) (c : Fin 8) (r : QueuedReply) (s : State) : (admitClaimant p c r s).nodeTable = s.nodeTable := by
  rfl

@[simp] theorem admitClaimant_mPointer (p : Port) (c : Fin 8) (r : QueuedReply) (s : State) : (admitClaimant p c r s).mPointer = s.mPointer := by
  rfl

@[simp] theorem admitClaimant_windows (p : Port) (c : Fin 8) (r : QueuedReply) (s : State) : (admitClaimant p c r s).windows = s.windows := by
  rfl

@[simp] theorem admitClaimant_track (p : Port) (c : Fin 8) (r : QueuedReply) (s : State) : (admitClaimant p c r s).track = s.track := by
  rfl

@[simp] theorem admitClaimant_locks (p : Port) (c : Fin 8) (r : QueuedReply) (s : State) : (admitClaimant p c r s).locks = s.locks := by
  rfl

@[simp] theorem admitClaimant_mgmt (p : Port) (c : Fin 8) (r : QueuedReply) (s : State) : (admitClaimant p c r s).mgmt = s.mgmt := by
  rfl

@[simp] theorem admitClaimant_actions (p : Port) (c : Fin 8) (r : QueuedReply) (s : State) : (admitClaimant p c r s).actions = s.actions := by
  rfl

@[simp] theorem admitClaimant_manager (p : Port) (c : Fin 8) (r : QueuedReply) (s : State) : (admitClaimant p c r s).manager = s.manager := by
  rfl

@[simp] theorem admitClaimant_settings (p : Port) (c : Fin 8) (r : QueuedReply) (s : State) : (admitClaimant p c r s).settings = s.settings := by
  rfl

@[simp] theorem admitClaimant_faultList (p : Port) (c : Fin 8) (r : QueuedReply) (s : State) : (admitClaimant p c r s).faultList = s.faultList := by
  rfl

@[simp] theorem admitClaimant_alert (p : Port) (c : Fin 8) (r : QueuedReply) (s : State) : (admitClaimant p c r s).alert = s.alert := by
  rfl

@[simp] theorem admitClaimant_freeUsed (p : Port) (c : Fin 8) (r : QueuedReply) (s : State) : (admitClaimant p c r s).freeUsed = s.freeUsed := by
  rfl

/-! ### `offerAnswer` -/

@[simp] theorem offerAnswer_pending (p : Port) (x : Option Resolution) (r : Reply) (s : State) : (offerAnswer p x r s).pending = s.pending := by
  unfold offerAnswer; split <;> simp

@[simp] theorem offerAnswer_resetLow (p : Port) (x : Option Resolution) (r : Reply) (s : State) : (offerAnswer p x r s).resetLow = s.resetLow := by
  unfold offerAnswer; split <;> simp

@[simp] theorem offerAnswer_fltLow (p : Port) (x : Option Resolution) (r : Reply) (s : State) : (offerAnswer p x r s).fltLow = s.fltLow := by
  unfold offerAnswer; split <;> simp

@[simp] theorem offerAnswer_time (p : Port) (x : Option Resolution) (r : Reply) (s : State) : (offerAnswer p x r s).time = s.time := by
  unfold offerAnswer; split <;> simp

@[simp] theorem offerAnswer_node (p : Port) (x : Option Resolution) (r : Reply) (s : State) : (offerAnswer p x r s).node = s.node := by
  unfold offerAnswer; split <;> simp

@[simp] theorem offerAnswer_nodeTable (p : Port) (x : Option Resolution) (r : Reply) (s : State) : (offerAnswer p x r s).nodeTable = s.nodeTable := by
  unfold offerAnswer; split <;> simp

@[simp] theorem offerAnswer_mPointer (p : Port) (x : Option Resolution) (r : Reply) (s : State) : (offerAnswer p x r s).mPointer = s.mPointer := by
  unfold offerAnswer; split <;> simp

@[simp] theorem offerAnswer_windows (p : Port) (x : Option Resolution) (r : Reply) (s : State) : (offerAnswer p x r s).windows = s.windows := by
  unfold offerAnswer; split <;> simp

@[simp] theorem offerAnswer_track (p : Port) (x : Option Resolution) (r : Reply) (s : State) : (offerAnswer p x r s).track = s.track := by
  unfold offerAnswer; split <;> simp

@[simp] theorem offerAnswer_locks (p : Port) (x : Option Resolution) (r : Reply) (s : State) : (offerAnswer p x r s).locks = s.locks := by
  unfold offerAnswer; split <;> simp

@[simp] theorem offerAnswer_mgmt (p : Port) (x : Option Resolution) (r : Reply) (s : State) : (offerAnswer p x r s).mgmt = s.mgmt := by
  unfold offerAnswer; split <;> simp

@[simp] theorem offerAnswer_actions (p : Port) (x : Option Resolution) (r : Reply) (s : State) : (offerAnswer p x r s).actions = s.actions := by
  unfold offerAnswer; split <;> simp

@[simp] theorem offerAnswer_manager (p : Port) (x : Option Resolution) (r : Reply) (s : State) : (offerAnswer p x r s).manager = s.manager := by
  unfold offerAnswer; split <;> simp

@[simp] theorem offerAnswer_settings (p : Port) (x : Option Resolution) (r : Reply) (s : State) : (offerAnswer p x r s).settings = s.settings := by
  unfold offerAnswer; split <;> simp

@[simp] theorem offerAnswer_faultList (p : Port) (x : Option Resolution) (r : Reply) (s : State) : (offerAnswer p x r s).faultList = s.faultList := by
  unfold offerAnswer; split <;> simp

@[simp] theorem offerAnswer_alert (p : Port) (x : Option Resolution) (r : Reply) (s : State) : (offerAnswer p x r s).alert = s.alert := by
  unfold offerAnswer; split <;> simp

@[simp] theorem offerAnswer_freeUsed (p : Port) (x : Option Resolution) (r : Reply) (s : State) : (offerAnswer p x r s).freeUsed = s.freeUsed := by
  unfold offerAnswer; split <;> simp

/-! ### `markHeads` -/

@[simp] theorem markHeads_pending (w : Port → PortRec → Bool) (s : State) : (markHeads w s).pending = s.pending := by
  rfl

@[simp] theorem markHeads_resetLow (w : Port → PortRec → Bool) (s : State) : (markHeads w s).resetLow = s.resetLow := by
  rfl

@[simp] theorem markHeads_fltLow (w : Port → PortRec → Bool) (s : State) : (markHeads w s).fltLow = s.fltLow := by
  rfl

@[simp] theorem markHeads_time (w : Port → PortRec → Bool) (s : State) : (markHeads w s).time = s.time := by
  rfl

@[simp] theorem markHeads_node (w : Port → PortRec → Bool) (s : State) : (markHeads w s).node = s.node := by
  rfl

@[simp] theorem markHeads_nodeTable (w : Port → PortRec → Bool) (s : State) : (markHeads w s).nodeTable = s.nodeTable := by
  rfl

@[simp] theorem markHeads_mPointer (w : Port → PortRec → Bool) (s : State) : (markHeads w s).mPointer = s.mPointer := by
  rfl

@[simp] theorem markHeads_windows (w : Port → PortRec → Bool) (s : State) : (markHeads w s).windows = s.windows := by
  rfl

@[simp] theorem markHeads_track (w : Port → PortRec → Bool) (s : State) : (markHeads w s).track = s.track := by
  rfl

@[simp] theorem markHeads_locks (w : Port → PortRec → Bool) (s : State) : (markHeads w s).locks = s.locks := by
  rfl

@[simp] theorem markHeads_mgmt (w : Port → PortRec → Bool) (s : State) : (markHeads w s).mgmt = s.mgmt := by
  rfl

@[simp] theorem markHeads_actions (w : Port → PortRec → Bool) (s : State) : (markHeads w s).actions = s.actions := by
  rfl

@[simp] theorem markHeads_manager (w : Port → PortRec → Bool) (s : State) : (markHeads w s).manager = s.manager := by
  rfl

@[simp] theorem markHeads_settings (w : Port → PortRec → Bool) (s : State) : (markHeads w s).settings = s.settings := by
  rfl

@[simp] theorem markHeads_faultList (w : Port → PortRec → Bool) (s : State) : (markHeads w s).faultList = s.faultList := by
  rfl

@[simp] theorem markHeads_alert (w : Port → PortRec → Bool) (s : State) : (markHeads w s).alert = s.alert := by
  rfl

@[simp] theorem markHeads_freeUsed (w : Port → PortRec → Bool) (s : State) : (markHeads w s).freeUsed = s.freeUsed := by
  rfl

/-! ### `markForLocks` -/

@[simp] theorem markForLocks_pending (s : State) : (markForLocks s).pending = s.pending := by
  simp [markForLocks]

@[simp] theorem markForLocks_resetLow (s : State) : (markForLocks s).resetLow = s.resetLow := by
  simp [markForLocks]

@[simp] theorem markForLocks_fltLow (s : State) : (markForLocks s).fltLow = s.fltLow := by
  simp [markForLocks]

@[simp] theorem markForLocks_time (s : State) : (markForLocks s).time = s.time := by
  simp [markForLocks]

@[simp] theorem markForLocks_node (s : State) : (markForLocks s).node = s.node := by
  simp [markForLocks]

@[simp] theorem markForLocks_nodeTable (s : State) : (markForLocks s).nodeTable = s.nodeTable := by
  simp [markForLocks]

@[simp] theorem markForLocks_mPointer (s : State) : (markForLocks s).mPointer = s.mPointer := by
  simp [markForLocks]

@[simp] theorem markForLocks_windows (s : State) : (markForLocks s).windows = s.windows := by
  simp [markForLocks]

@[simp] theorem markForLocks_track (s : State) : (markForLocks s).track = s.track := by
  simp [markForLocks]

@[simp] theorem markForLocks_locks (s : State) : (markForLocks s).locks = s.locks := by
  simp [markForLocks]

@[simp] theorem markForLocks_mgmt (s : State) : (markForLocks s).mgmt = s.mgmt := by
  simp [markForLocks]

@[simp] theorem markForLocks_actions (s : State) : (markForLocks s).actions = s.actions := by
  simp [markForLocks]

@[simp] theorem markForLocks_manager (s : State) : (markForLocks s).manager = s.manager := by
  simp [markForLocks]

@[simp] theorem markForLocks_settings (s : State) : (markForLocks s).settings = s.settings := by
  simp [markForLocks]

@[simp] theorem markForLocks_faultList (s : State) : (markForLocks s).faultList = s.faultList := by
  simp [markForLocks]

@[simp] theorem markForLocks_alert (s : State) : (markForLocks s).alert = s.alert := by
  simp [markForLocks]

@[simp] theorem markForLocks_freeUsed (s : State) : (markForLocks s).freeUsed = s.freeUsed := by
  simp [markForLocks]

/-! ### The port records that the operations leave -/

@[simp] theorem popHead_port_of_ne {p q : Port} (h : q ≠ p) (s : State) : (popHead p s).port q = s.port q :=
  State.port_modifyPort_of_ne s _ h

/-- The head leaves its lane: the rest of the lane stays, one request credit more is owed, up to the capacity (R13, R17). -/
theorem popHead_port_cons {p : Port} {s : State} {h : Request} {rest : List Request}
    (hl : (s.port p).reqLane = h :: rest) :
    (popHead p s).port p =
      { s.port p with reqLane := rest, head := headAfter rest, recheck := false,
                      owed := { (s.port p).owed with req := min ((s.port p).owed.req + 1) 12 } } := by
  simp [popHead, hl, Config.requestLaneSlots]

@[simp] theorem popReply_port_of_ne {p q : Port} (h : q ≠ p) (s : State) : (popReply p s).port q = s.port q :=
  State.port_modifyPort_of_ne s _ h

/-- A reply leaves its lane: the rest stays, one reply credit more is owed, up to the capacity (R14, R17). -/
theorem popReply_port_cons {p : Port} {s : State} {r : Reply} {rest : List Reply}
    (hl : (s.port p).repLane = r :: rest) :
    (popReply p s).port p =
      { s.port p with repLane := rest, owed := { (s.port p).owed with rep := min ((s.port p).owed.rep + 1) 8 } } := by
  simp [popReply, hl, Config.replyLaneSlots]

@[simp] theorem admitClaimant_port_of_ne {p q : Port} (h : q ≠ p) (c : Fin 8) (r : QueuedReply) (s : State) :
    (admitClaimant p c r s).port q = s.port q :=
  State.port_modifyPort_of_ne s _ h

@[simp] theorem admitClaimant_port_self (p : Port) (c : Fin 8) (r : QueuedReply) (s : State) :
    (admitClaimant p c r s).port p =
      { s.port p with replyQueue := (s.port p).replyQueue ++ [r], queuePointer := c } := by
  simp [admitClaimant]

@[simp] theorem enqueueReply_port_of_ne {p q : Port} (h : q ≠ p) (r : QueuedReply) (s : State) :
    (enqueueReply p r s).port q = s.port q :=
  State.port_modifyPort_of_ne s _ h

@[simp] theorem enqueueReply_port_self (p : Port) (r : QueuedReply) (s : State) :
    (enqueueReply p r s).port p = { s.port p with replyQueue := (s.port p).replyQueue ++ [r] } := by
  simp [enqueueReply]

/-- A marking changes the re-examination mark alone, and only of heads that are OFFERED or in LOCK_WAIT (R66). -/
theorem markHeads_port (w : Port → PortRec → Bool) (s : State) (p : Port) :
    (markHeads w s).port p =
      if (s.port p).head.waiting && w p (s.port p) then { s.port p with recheck := true } else s.port p := by
  simp [markHeads, State.port]

/-! ### The fence check -/

/-- A later examination does not read the node number: an UNFENCE resolved to this router passes whatever the number is by
then (R68, R122). -/
@[simp] theorem passesAgain_with_node (x : Port) (h : Request) (res : Resolution) (s : State) (n : Node) :
    passesAgain x h res { s with node := n } = passesAgain x h res s := rfl

/-- Without the fence no head is stopped by it (R68). -/
theorem fenceStops_of_unfenced {x : Port} {s : State} (passes : Bool) (h : (s.port x).fenced = false) :
    fenceStops x passes s = false := by
  simp [fenceStops, h]

end Sys2Proof.Machine
end

