-- ==== Sys2Proof/Laws/Settle.lean ====
section
/-! SUPPORT. The coming to rest of one event: what one turn of it takes, and the induction over its turns, once. -/

namespace Sys2Proof.Machine

open Sys2Proof

/-- One turn takes one of the actions that may be taken, whichever the free order names. -/
theorem takeOne_takes (first : Internal) (rest : List Internal) (s : State) :
    ∃ a ∈ first :: rest, ∃ k, takeOne first rest s = doInternal a { s with freeUsed := k } := by
  unfold takeOne
  split
  · exact ⟨first, by simp, s.freeUsed, rfl⟩
  · refine ⟨_, ?_, s.freeUsed + 1, rfl⟩
    have h : Config.freeOrder s.freeUsed % (rest.length + 1) < (first :: rest).length := by
      simpa using Nat.mod_lt _ (Nat.succ_pos _)
    rw [List.getD_eq_getElem _ _ h]
    exact List.getElem_mem h

/-- What holds at the start of an event's coming to rest, and is kept by every action that may be taken, holds at the end.
The count of free choices may stand anywhere. -/
theorem settle_keeps (P : State → Prop) (s : State) (h : P s)
    (keep : ∀ (a : Internal) (u : State) (k : Nat), P u → a ∈ internalActions u → P (doInternal a { u with freeUsed := k })) :
    P (settle s) := by
  suffices g : ∀ (n : Nat) (u : State), P u → P (settleFor n u) from g _ s h
  intro n
  induction n with
  | zero => exact fun u hu => hu
  | succ n ih =>
    intro u hu
    unfold settleFor
    split
    · exact hu
    · next a rest e =>
      obtain ⟨b, hb, k, hk⟩ := takeOne_takes a rest u
      rw [hk]
      exact ih _ (keep b u k hu (e ▸ hb))

/-- A router at rest stays as it is. -/
theorem settle_of_quiet (s : State) (h : Quiet s) : settle s = s := by
  unfold settle
  generalize workLeft s = n
  cases n with
  | zero => rfl
  | succ n =>
    unfold settleFor
    rw [show internalActions s = [] from h]

/-- A measure that every action that may be taken lowers is lowered to 0, or to rest, by as many turns. -/
theorem settleFor_quiet (m : State → Nat)
    (lower : ∀ (a : Internal) (u : State) (k : Nat), a ∈ internalActions u → m (doInternal a { u with freeUsed := k }) < m u)
    (n : Nat) (s : State) (h : m s ≤ n) : Quiet (settleFor n s) := by
  induction n generalizing s with
  | zero =>
    unfold Quiet settleFor
    cases e : internalActions s with
    | nil => rfl
    | cons a rest =>
      have := lower a s s.freeUsed (by simp [e])
      omega
  | succ n ih =>
    unfold settleFor
    split
    · assumption
    · next a rest e =>
      obtain ⟨b, hb, k, hk⟩ := takeOne_takes a rest s
      rw [hk]
      have := lower b s k (e ▸ hb)
      exact ih _ (by omega)

end Sys2Proof.Machine
end

