-- ==== Sys2Proof/Laws/Wire.lean ====
section
/-! SUPPORT. The check of a parcel: the byte-wise shift register of the model is the bit-wise check of R26. -/

namespace Sys2Proof.Machine

open Sys2Proof

/-- The shift register of the check is linear. -/
theorem crcShift_xor (a b : Word) : crcShift (a ^^^ b) = crcShift a ^^^ crcShift b := by
  unfold crcShift
  rw [BitVec.msb_xor]
  cases a.msb <;> cases b.msb <;> simp [BitVec.shiftLeft_xor_distrib]
  · rw [BitVec.xor_assoc]
  · ac_rfl
  · rw [BitVec.xor_comm (a <<< 1) 79764919#32, BitVec.xor_comm (b <<< 1) 79764919#32, BitVec.xor_assoc,
      ← BitVec.xor_assoc (a <<< 1), BitVec.xor_comm (a <<< 1) 79764919#32, BitVec.xor_assoc, ← BitVec.xor_assoc,
      BitVec.xor_self, BitVec.zero_xor]

/-- A bit that enters the check is added at the top of the register before it shifts (R26). -/
theorem checkBit_eq (c : Word) (bit : Bool) :
    checkBit c bit = crcShift (c ^^^ if bit then 0x80000000#32 else 0#32) := by
  have h : (0x80000000#32 : Word).msb = true := by decide
  unfold checkBit crcShift
  rw [BitVec.msb_xor]
  cases bit <;> cases c.msb <;> simp [BitVec.shiftLeft_xor_distrib, h]

/-- One shift of what is left of a byte takes its top bit out. -/
theorem crcShift_byte (b : Byte) : ∀ k : Fin 8,
    crcShift ((b.setWidth 32) <<< (24 + k.val)) =
      crcShift (if b.getLsbD (7 - k.val) then 0x80000000#32 else 0#32) ^^^ (b.setWidth 32) <<< (25 + k.val) := by
  revert b; decide +kernel

/-- One shift of the register takes in one bit of a byte that has been added to it. -/
theorem crcShift_step (c : Word) (b : Byte) (k : Fin 8) :
    crcShift (c ^^^ (b.setWidth 32) <<< (24 + k.val)) =
      checkBit c (b.getLsbD (7 - k.val)) ^^^ (b.setWidth 32) <<< (25 + k.val) := by
  rw [crcShift_xor, crcShift_byte, ← BitVec.xor_assoc, ← crcShift_xor, ← checkBit_eq]

/-- Entering a byte is entering its bits, the most significant first (R26). -/
theorem crcByte_eq_bits (c : Word) (b : Byte) : crcByte c b = (bitsOfByte b).foldl checkBit c := by
  have h : ((b.setWidth 32) <<< 32 : Word) = 0#32 := by simp
  have step (k : Nat) (hk : k < 8) (c : Word) := crcShift_step c b ⟨k, hk⟩
  have h0 := step 0 (by decide)
  have h1 := step 1 (by decide)
  have h2 := step 2 (by decide)
  have h3 := step 3 (by decide)
  have h4 := step 4 (by decide)
  have h5 := step 5 (by decide)
  have h6 := step 6 (by decide)
  have h7 := step 7 (by decide)
  simp only [Nat.reduceAdd, Nat.reduceSub, Nat.add_zero, Nat.sub_zero, h] at h0 h1 h2 h3 h4 h5 h6 h7
  simp only [crcByte, bitsOfByte, h0, h1, h2, h3, h4, h5, h6, h7, List.foldl_cons, List.foldl_nil, BitVec.xor_zero]

/-- The check of the transmitter and the receiver is the one of R26. -/
theorem crc_eq_checkOf (bytes : List Byte) : crc bytes = checkOf bytes := by
  simp only [crc, checkOf, List.foldl_flatMap, ← crcByte_eq_bits]

end Sys2Proof.Machine
end

