-- ==== Sys2Proof/WellFormed.lean ====
section
/-! DEFINITION. Well-formed commands: the bytes that a row about a received parcel carries are of that row's kind. The
port, index and strap operands are of types that hold only legal values. -/

namespace Sys2Proof

open Sys2Proof.Machine

/-- The bytes are a good HELLO. -/
def Machine.Received.isHello : Received → Bool
  | .parcel (.hello _ _ _ _) => true
  | _ => false

/-- The bytes are a good parcel of a request kind (R11). -/
def Machine.Received.isRequest : Received → Bool
  | .parcel (.request _ _) => true
  | _ => false

/-- The bytes are a good REPLY. -/
def Machine.Received.isReply : Received → Bool
  | .parcel (.reply _ _) => true
  | _ => false

/-- The bytes are a good CREDIT. -/
def Machine.Received.isCredit : Received → Bool
  | .parcel (.credit _) => true
  | _ => false

/-- A HELLO with offers in the ranges 1 to 12 and 1 to 8, as HELLO_ACCEPT takes it (R5). -/
def Machine.Received.offersInRange : Received → Bool
  | .parcel (.hello _ a b _) => 1 ≤ a.toNat && a.toNat ≤ 12 && 1 ≤ b.toNat && b.toNat ≤ 8
  | _ => false

/-- The operands of a command fit its row of spec/opcode_table.json. Every command without a parcel is well formed. -/
def Instr.wf : Instr → Bool
  | .helloAccept _ bytes => (parse bytes).offersInRange
  | .helloReceiveUp _ bytes => (parse bytes).isHello
  | .damagedParcel _ bytes => parse bytes == .damaged
  | .requestParcelReceive _ bytes => (parse bytes).isRequest
  | .replyParcelReceive _ bytes => (parse bytes).isReply
  | .creditReceive _ bytes => (parse bytes).isCredit
  | .unknownKindReceive _ bytes => parse bytes == .unknownKind
  | .trainingParcelDiscard _ bytes => parse bytes != .damaged && !(parse bytes).isHello
  | _ => true

end Sys2Proof
end

