-- ==== Sys2Proof/Tests/Slice0.lean ====
section
/-! SUPPORT. Tests on fixed values: the operand checks of `Instr.wf`, the check of R26, and one step per test on a small
state, with the expected values taken from chapters 2, 3, 9 and 11 or worked out by hand from the cited rules. -/

namespace Sys2Proof.Tests

open Sys2Proof Sys2Proof.Machine

set_option Elab.async false

/-! ### Helpers -/

/-- A port in UP with full credits, nothing owed and nothing being sent. -/
def upPort : PortRec :=
  { PortRec.cold 0 with
    link := .up, heard := true, seen := true, peerNode := some 9, offers := some ⟨12, 8⟩, credits := ⟨12, 8⟩
    helloTimer := none, attemptTimer := none, tx := none }

/-- The router of chapter 11 as a bank of one window: the 16 MiB at 0x40000000 on L5 for L0 and L1 (11.1.5). -/
def memoryBank : Bank :=
  (Vector.replicate 48 WindowEntry.zero).set 0 (entryOfWords 0x98031705#32 0#32 0x40000000#32 0#32)

/-- Router A of chapter 11 after bring-up: node 3, every link UP, node 5 behind L4, manager port L2, one window,
generation 1. -/
def routerA : State :=
  { State.cold 3 (some 2) with
    ports := Vector.replicate 6 upPort
    nodeTable := (State.cold 3 none).nodeTable.set 5 (.port 4)
    windows := ⟨memoryBank, memoryBank, 1#16⟩ }

/-- A request with every field 0. -/
def blank : Request := ⟨.fetch, 0, 0, 0, 0, 0, 0, 0, []⟩

/-- The bytes of a request with no credit returns. -/
def requestBytes (r : Request) : List Byte := wireBytes (.request ⟨0, 0⟩ r)

/-- The bytes of a reply with no credit returns. -/
def replyBytes (tag : Tag) (status : Byte) (payload : List Word) : List Byte :=
  wireBytes (.reply ⟨0, 0⟩ ⟨tag, status, payload⟩)

/-- The directive of command `c` from L2 with tag 0x20. -/
def directive (c : Command) (args : List Word) : Directive := ⟨2, 0x20#8, c.code, BitVec.ofNat 5 args.length, args⟩

/-- Router A executing a directive. -/
def executing (c : Command) (args : List Word) : State := { routerA with mgmt := .executing (directive c args) }

/-- One command answers a next state that passes the check. -/
def gives (c : Instr) (s : State) (check : State → Bool) : Bool :=
  match exec c s with
  | .next t => check t
  | _ => false

/-- The reply that L2 is sending. -/
def answerOf (t : State) : Option Reply :=
  match (t.port 2).tx with
  | some ⟨.reply _ r, _⟩ => some r
  | _ => none

/-- The kinds, ports and details of the Fault List, oldest first. -/
def faultsOf (t : State) : List (FaultKind × Option Port × Option Byte) :=
  t.faultList.records.map fun f => (f.report.kind, f.report.port, f.report.detail)

/-- Executing `c` answers with this status and payload. -/
def answers (c : Command) (i : Instr) (args : List Word) (st : Status) (payload : List Word) : Bool :=
  gives i (executing c args) fun t => answerOf t == some ⟨0x20#8, st.code, payload⟩

/-! ### Operands: an ill-formed term for each check of `Instr.wf` -/

theorem test_wf_refuses_helloAccept_offer_out_of_range :
    (Instr.helloAccept 0 (wireBytes (.hello 1 13 8 true))).wf = false := by decide +kernel

theorem test_wf_refuses_helloReceiveUp_of_a_credit :
    (Instr.helloReceiveUp 0 (wireBytes (.credit ⟨1, 0⟩))).wf = false := by decide +kernel

theorem test_wf_refuses_damagedParcel_of_a_good_parcel :
    (Instr.damagedParcel 0 (wireBytes (.credit ⟨1, 0⟩))).wf = false := by decide +kernel

theorem test_wf_refuses_requestParcelReceive_of_a_reply :
    (Instr.requestParcelReceive 0 (replyBytes 1 0 [])).wf = false := by decide +kernel

theorem test_wf_refuses_replyParcelReceive_of_a_request :
    (Instr.replyParcelReceive 0 (requestBytes blank)).wf = false := by decide +kernel

theorem test_wf_refuses_creditReceive_of_a_hello :
    (Instr.creditReceive 0 (wireBytes (.hello 1 12 8 true))).wf = false := by decide +kernel

theorem test_wf_refuses_unknownKindReceive_of_a_known_kind :
    (Instr.unknownKindReceive 0 (requestBytes blank)).wf = false := by decide +kernel

theorem test_wf_refuses_trainingParcelDiscard_of_a_hello :
    (Instr.trainingParcelDiscard 0 (wireBytes (.hello 1 12 8 false))).wf = false := by decide +kernel

theorem test_wf_refuses_trainingParcelDiscard_of_damage : (Instr.trainingParcelDiscard 0 []).wf = false := by
  decide +kernel

theorem test_wf_takes_good_operands :
    (Instr.helloAccept 0 (wireBytes (.hello 1 12 8 true))).wf = true ∧ (Instr.damagedParcel 0 []).wf = true ∧
      (Instr.requestParcelReceive 0 (requestBytes blank)).wf = true ∧ Instr.timeBaseTick.wf = true := by decide +kernel

/-! ### Parcels -/

/-- The CRC of R26 is the one of the usual test string 123456789, whose value is 0xFC891918. -/
theorem test_check_of_the_usual_string :
    crc [0x31#8, 0x32#8, 0x33#8, 0x34#8, 0x35#8, 0x36#8, 0x37#8, 0x38#8, 0x39#8] = 0xFC891918#32 := by decide +kernel

/-- The header of R28 written out for a FETCH of 4 words, tag 0x2A, at 0x0000_4000_0100, returning 1 request credit. -/
theorem test_fetch_header_bytes :
    bodyBytes (.request ⟨1, 0⟩ { blank with tag := 0x2A#8, length := 4#5, addr := 0x40000100#48 }) =
      [0x10#8, 0x10#8, 0x2A#8, 0x04#8, 0#8, 0#8, 0x40#8, 0#8, 0x01#8, 0#8, 0#8, 0#8, 0#8, 0#8, 0#8, 0#8] := by
  decide +kernel

/-- A check that differs in one bit makes a parcel damaged (R10, R26). -/
theorem test_one_wrong_bit_is_damage :
    parse ((wireBytes (.credit ⟨1, 0⟩)).set 19 ((wireBytes (.credit ⟨1, 0⟩)).getD 19 0 ^^^ 1#8)) = .damaged := by
  decide +kernel

/-- The entry words of 11.1.5: base, exponent, origins, kinds and destination. -/
theorem test_entry_words_of_the_manual :
    (entryOfWords 0x98031705#32 0#32 0x40000000#32 0#32).base = 0x40000000#48 ∧
      (entryOfWords 0x98031705#32 0#32 0x40000000#32 0#32).exponent = 24#6 ∧
      (entryOfWords 0x98031705#32 0#32 0x40000000#32 0#32).origins = 3#6 ∧
      (entryOfWords 0x98031705#32 0#32 0x40000000#32 0#32).kinds = 0x17#5 := by decide +kernel

/-! ### Pins, Time Base and timers -/

/-- The straps of 11.1.1: NODE = 3 and MGR = 6 leave the manager port unset (R184). -/
theorem test_straps_of_router_A :
    gives (.coldResetRelease 3#5 6#3) { State.reset with resetLow := true } (fun t =>
      t.manager == none && t.nodeTable[3] == .self && t.nodeTable[0] == .unreachable &&
        (t.port 4).tx == some ⟨firstHello 3, false⟩) = true := by decide +kernel

/-- MGR = 5 makes L5 the manager port (R184). -/
theorem test_straps_name_a_manager :
    gives (.coldResetRelease 31#5 5#3) { State.reset with resetLow := true } (fun t =>
      t.manager == some 5 && t.node == 31) = true := by decide +kernel

/-- The falling edge releases FLT# and holds the Time Base at 0 (R182). -/
theorem test_falling_edge :
    gives .coldResetAssert { routerA with fltLow := true, time := 77#32 } (fun t =>
      !t.fltLow && t.time == 0#32 && t.resetLow) = true := by decide +kernel

/-- The count wraps after 2^32 - 1 (R185). -/
theorem test_tick_wraps :
    gives .timeBaseTick { State.reset with time := 0xFFFFFFFF#32 } (fun t =>
      t.time == 0#32 && (t.port 0).helloTimer == some 9 && (t.port 5).attemptTimer == some 199) = true := by
  decide +kernel

/-- The periodic HELLO carries the seen flag once the peer was heard (R4; step 4 of 11.1.2). -/
theorem test_hello_timer :
    gives (.helloTimerExpiry 4)
      (State.reset.modifyPort 4 fun r => { r with tx := none, heard := true, helloTimer := some 0 }) (fun t =>
        (t.port 4).tx == some ⟨.hello 0 12#8 8#8 true, false⟩ && (t.port 4).helloTimer == some 10) = true := by
  decide +kernel

/-- The fourth counted attempt halts the port with LINK_HALTED, and the manager port is lost after it (R7, R144). -/
theorem test_fourth_attempt_halts :
    gives (.attemptTimerExpiry 2)
      ((State.cold 3 (some 2)).modifyPort 2 fun r => { r with heard := true, attempts := 3, attemptTimer := some 0 })
      (fun t => (t.port 2).link == .halted && t.manager == none &&
        faultsOf t == [(.linkHalted, some 2, none), (.managerLost, some 2, none)]) = true := by decide +kernel

/-- Step 1 of 11.3.2: TIMEOUT with tag 0x15, TOMBSTONE for 2000 µs, REPLY_TIMEOUT for L5, tag 6, index 1. -/
theorem test_deadline_with_room :
    gives (.deadlineExpiry 6)
      { routerA with track := routerA.track.set 6 (some ⟨.active false, 1, 0x15#8, 5, .fetch 0, 1#16, 0⟩) } (fun t =>
        t.track[6] == some ⟨.tombstone, 1, 0x15#8, 5, .fetch 0, 1#16, 2000⟩ &&
        (t.port 1).tx == some ⟨.reply ⟨0, 0⟩ ⟨0x15#8, 0x20#8, []⟩, false⟩ &&
        t.faultList.records.map FaultRecord.report ==
          [{ kind := .replyTimeout, port := some 5, tag := some 6#8, index := some 1#6 }]) = true := by decide +kernel

/-- An orphan's deadline makes it a TOMBSTONE with no reply and no fault (R97). -/
theorem test_orphan_deadline :
    gives (.orphanDeadlineExpiry 0)
      { routerA with track := routerA.track.set 0 (some ⟨.orphaned, 0, 0x41#8, 5, .storeC 0, 1#16, 0⟩) } (fun t =>
        (t.track[0].map TrackEntry.state) == some .tombstone && faultsOf t == []) = true := by decide +kernel

/-- Step 3 of 11.3.2: the tombstone's expiry frees the entry. -/
theorem test_tombstone_expiry :
    gives (.tombstoneExpiry 6)
      { routerA with track := routerA.track.set 6 (some ⟨.tombstone, 1, 0x15#8, 5, .fetch 0, 1#16, 0⟩) } (fun t =>
        t.track[6] == none) = true := by decide +kernel

/-- A hold limit that runs out breaks the lock with detail EXPIRED (R114, R115). -/
theorem test_lock_hold_expiry :
    gives (.lockHoldExpiry 0) { routerA with locks := routerA.locks.set 0 (some ⟨0, 0, 0⟩) } (fun t =>
      t.locks[0] == none && faultsOf t == [(.lockBroken, some 0, some 1#8)]) = true := by decide +kernel

/-! ### Parcels that arrive -/

/-- Step 5 of 11.1.2: with the seen flag the port is UP with credits 12 and 8, and the closing HELLO waits for the
transmitter. -/
theorem test_hello_accept_enters_up :
    gives (.helloAccept 4 (wireBytes (.hello 5 12 8 true))) (State.cold 3 none) (fun t =>
      (t.port 4).link == .up && (t.port 4).credits == ⟨12, 8⟩ && (t.port 4).peerNode == some 5 &&
        (t.port 4).helloDue == 1) = true := by decide +kernel

/-- A HELLO with the seen flag clear restarts an UP link with LINK_LOST, detail 1, and is heard in the new training (R12). -/
theorem test_hello_in_up_restarts :
    gives (.helloReceiveUp 4 (wireBytes (.hello 5 12 8 false))) routerA (fun t =>
      (t.port 4).link == .training && (t.port 4).heard && faultsOf t == [(.linkLost, some 4, some 1#8)]) = true := by
  decide +kernel

/-- The row t = 250 of 11.4: LINK_CHECK, then LOCK_BROKEN with detail LINK, and the request of L0 is ORPHANED. -/
theorem test_damage_breaks_the_holders_lock :
    gives (.damagedParcel 0 [])
      { routerA with
        locks := routerA.locks.set 0 (some ⟨0, 0, 750⟩)
        track := routerA.track.set 0 (some ⟨.active false, 0, 0x41#8, 5, .storeC 0, 1#16, 3770⟩) } (fun t =>
        faultsOf t == [(.linkCheck, some 0, none), (.lockBroken, some 0, some 2#8)] && t.locks[0] == none &&
        t.track[0] == some ⟨.orphaned, 0, 0x41#8, 5, .storeC 0, 1#16, 3770⟩ && (t.port 0).peerNode == none) = true := by
  decide +kernel

theorem test_parcel_in_halted_is_discarded :
    gives (.parcelDiscardInactive 1 (requestBytes blank)) (routerA.modifyPort 1 fun r => { r with link := .halted })
      (fun t => t == routerA.modifyPort 1 fun r => { r with link := .halted }) = true := by decide +kernel

/-- Sequence 11.2: with entries 0 and 1 taken, the FETCH leaves on L5 with tag 2, under generation 1 and 4000 µs, and L5 has
11 request credits. -/
theorem test_fetch_is_tracked :
    gives (.requestParcelReceive 0 (requestBytes { blank with tag := 0x2A#8, length := 4#5, addr := 0x40000100#48 }))
      { (routerA.modifyPort 5 fun r => { r with arbPointer := 1 }) with
        track := (routerA.track.set 0 (some ⟨.active false, 1, 0x01#8, 5, .fetch 0, 1#16, 9⟩)).set 1
          (some ⟨.active false, 1, 0x02#8, 5, .fetch 0, 1#16, 9⟩) } (fun t =>
        t.track[2] == some ⟨.active false, 0, 0x2A#8, 5, .fetch 0, 1#16, 4000⟩ && (t.port 5).credits == ⟨11, 8⟩ &&
        (t.port 5).arbPointer == 0 &&
        (t.port 5).tx == some ⟨.request ⟨0, 0⟩ { blank with tag := 2#8, length := 4#5, addr := 0x40000100#48 }, false⟩)
      = true := by decide +kernel

/-- Step 1 of 11.4: the CLAIM takes record 0 for 1000 µs and is answered OK with its own tag. -/
theorem test_claim_takes_a_record :
    gives (.requestParcelReceive 0 (requestBytes { blank with kind := .claim, tag := 0x40#8, addr := 0x40000000#48 }))
      routerA (fun t => t.locks[0] == some ⟨0, 0, 1000⟩ &&
        (t.port 0).tx == some ⟨.reply ⟨1, 0⟩ ⟨0x40#8, 0x00#8, []⟩, false⟩) = true := by decide +kernel

/-- A ninth reply in the lane overruns it: OVERRUN with detail 2, and the port is fenced (R18). -/
theorem test_reply_overrun :
    gives (.replyParcelReceive 3 (replyBytes 1 0 []))
      (routerA.modifyPort 3 fun r => { r with repLane := List.replicate 8 ⟨1, 0, []⟩ }) (fun t =>
        faultsOf t == [(.overrun, some 3, some 2#8)] && (t.port 3).fenced && (t.port 3).repLane == []) = true := by
  decide +kernel

theorem test_reply_joins_its_lane :
    gives (.replyParcelReceive 3 (replyBytes 1 0 [7#32])) routerA (fun t => (t.port 3).repLane == [⟨1, 0, [7#32]⟩])
      = true := by decide +kernel

/-- Returned credits are capped at the peer's offers (R16). -/
theorem test_credits_are_capped :
    gives (.creditReceive 3 (wireBytes (.credit ⟨12, 1⟩))) (routerA.modifyPort 3 fun r => { r with credits := ⟨5, 2⟩ })
      (fun t => (t.port 3).credits == ⟨12, 3⟩) = true := by decide +kernel

/-- A header of kind code 0x55. -/
def unknownHeader : List Byte := [0x55#8] ++ List.replicate 15 0#8

/-- Kind code 0x55 is not in the table of R27: MALFORMED with detail 1 (R11). -/
theorem test_unknown_kind :
    gives (.unknownKindReceive 3 (unknownHeader ++ bytesOfWord (crc unknownHeader))) routerA (fun t =>
      faultsOf t == [(.malformed, some 3, some 1#8)]) = true := by decide +kernel

theorem test_training_discards_a_request :
    gives (.trainingParcelDiscard 0 (requestBytes blank)) State.reset (fun t => t == State.reset) = true := by
  decide +kernel

/-! ### Parcels that leave, replies that are matched -/

/-- After the closing HELLO the arbiter sends the reply that waits (R6, R77). -/
theorem test_parcel_left_lets_a_reply_go :
    gives (.parcelLeft 1)
      (routerA.modifyPort 1 fun r => { r with tx := some ⟨firstHello 3, false⟩, replyQueue := [⟨⟨9#8, 0#8, []⟩, false⟩] })
      (fun t => (t.port 1).tx == some ⟨.reply ⟨0, 0⟩ ⟨9#8, 0#8, []⟩, false⟩ && (t.port 1).credits == ⟨12, 7⟩) = true := by
  decide +kernel

/-- A SET_NODE takes effect when its reply has left: SELF moves (R126). -/
theorem test_parcel_left_moves_the_node :
    gives (.parcelLeft 2)
      { (routerA.modifyPort 2 fun r => { r with tx := some ⟨.reply ⟨0, 0⟩ ⟨1#8, 0#8, []⟩, true⟩ }) with
        actions := [⟨.setNode 7, 2⟩] } (fun t =>
        t.node == 7 && t.nodeTable[7] == .self && t.nodeTable[3] == .unreachable && t.actions == []) = true := by
  decide +kernel

/-- Step 4 of 11.2: the origin tag 0x2A comes back, the entry is FREE and L5 is owed a reply credit. -/
theorem test_reply_is_relayed :
    gives (.replyMatch 5)
      { (routerA.modifyPort 5 fun r => { r with repLane := [⟨2#8, 0#8, [1#32]⟩], tx := some ⟨firstHello 3, false⟩ }) with
        track := routerA.track.set 2 (some ⟨.active false, 0, 0x2A#8, 5, .fetch 0, 1#16, 3963⟩) } (fun t =>
        t.track[2] == none && (t.port 5).owed == ⟨0, 1⟩ &&
        (t.port 0).tx == some ⟨.reply ⟨0, 0⟩ ⟨0x2A#8, 0#8, [1#32]⟩, false⟩) = true := by decide +kernel

/-- Step 2 of 11.5: tag 200 names no entry, and the full list keeps the newest record (R93, R169). -/
theorem test_stray_reply_on_a_full_list :
    gives (.replyMatch 3)
      { (routerA.modifyPort 3 fun r => { r with repLane := [⟨200#8, 0#8, []⟩] }) with
        faultList := ⟨(List.range 32).map fun i => ⟨BitVec.ofNat 16 (100 + i), 0#32, { kind := .noRoute }⟩, 132#16, .keepNewest⟩ }
      (fun t => (t.faultList.records.map FaultRecord.seq) == (List.range 32).map (fun i => BitVec.ofNat 16 (101 + i)) &&
        (t.faultList.records.getLast?.map FaultRecord.report) ==
          some { kind := .strayReply, port := some 3, tag := some 200#8 }) = true := by decide +kernel

/-! ### Directives -/

/-- Step 3 of 11.1.3 and step 8 of 11.1.5: the words of IDENTIFY with manager port L2, node 3, generation 1. -/
theorem test_identify :
    answers .identify .identify [] .ok [0x3C5A0106#32, 0x10000203#32, 0x00000001#32] = true := by decide +kernel

/-- L2 is UP, the manager port, heard and seen, with peer 9; 12 and 8 credits; offers 12 and 8; quota 16, deadline 4000. -/
theorem test_portStatus :
    answers .portStatus .portStatus [2#32] .ok [0x00892E02#32, 0x0000008C#32, 0x0000018C#32, 0x00100FA0#32] = true := by
  decide +kernel

theorem test_portEnable :
    gives .portEnable
      { (executing .portEnable [1#32]) with
        ports := routerA.ports.set 1 { upPort with link := .halted, attempts := 4 } } (fun t =>
        (t.port 1).link == .training && (t.port 1).attempts == 0 &&
        (t.port 1).tx == some ⟨firstHello 3, false⟩) = true := by decide +kernel

theorem test_portDisable_waits_for_its_reply :
    gives .portDisable (executing .portDisable [1#32]) (fun t =>
      (t.port 1).link == .up && t.actions == [⟨.disable 1, 2⟩] &&
        (t.port 2).tx == some ⟨.reply ⟨0, 0⟩ ⟨0x20#8, 0#8, []⟩, true⟩) = true := by decide +kernel

theorem test_portRestart_waits_for_its_reply :
    gives .portRestart (executing .portRestart [1#32]) (fun t =>
      (t.port 1).link == .up && t.actions == [⟨.restart 1, 2⟩]) = true := by decide +kernel

/-- A fence breaks the port's lock with detail FENCE (R117, R152). -/
theorem test_fence :
    gives .fence { (executing .fence [0#32]) with locks := routerA.locks.set 0 (some ⟨0, 0, 750⟩) } (fun t =>
      (t.port 0).fenced && t.locks[0] == none && faultsOf t == [(.lockBroken, some 0, some 3#8)]) = true := by
  decide +kernel

theorem test_unfence :
    gives .unfence { (executing .unfence [0#32]) with ports := routerA.ports.set 0 { upPort with fenced := true } }
      (fun t => !(t.port 0).fenced) = true := by decide +kernel

theorem test_setQuota_range :
    answers .setQuota .setQuota [0#32, 64#32] .ok [] = true ∧
      answers .setQuota .setQuota [0#32, 65#32] .badArgument [] = true := by decide +kernel

theorem test_setDeadline_range :
    answers .setDeadline .setDeadline [0#32, 10#32] .ok [] = true ∧
      answers .setDeadline .setDeadline [0#32, 9#32] .badArgument [] = true := by decide +kernel

theorem test_setTombstone :
    gives .setTombstone (executing .setTombstone [65535#32]) (fun t => t.settings.tombstone == 65535) = true := by
  decide +kernel

theorem test_setLockLimit :
    gives .setLockLimit (executing .setLockLimit [10#32]) (fun t => t.settings.holdLimit == 10) = true := by
  decide +kernel

theorem test_resetRouter_waits_for_its_reply :
    gives .resetRouter (executing .resetRouter []) (fun t =>
      t.actions == [⟨.resetRouter, 2⟩] && (t.port 0).link == .up) = true := by decide +kernel

/-- The mistaken entry of 11.1.5 is encodable and is stored. -/
theorem test_tableWrite :
    gives .tableWrite (executing .tableWrite [1#32, 0x8C010105#32, 0#32, 0x50000800#32, 0#32]) (fun t =>
      entryWords t.windows.staging[1] == [0x8C010105#32, 0#32, 0x50000800#32, 0#32] &&
        t.windows.active[1] == .zero) = true := by decide +kernel

/-- Bits 23 and 22 of word 1 must be 0 (R36, R55). -/
theorem test_tableWrite_refuses_unencodable_words :
    answers .tableWrite .tableWrite [1#32, 0x8C410105#32, 0#32, 0#32, 0#32] .badArgument [] = true := by decide +kernel

theorem test_tableRead :
    answers .tableRead .tableRead [0#32, 0#32] .ok [0x98031705#32, 0#32, 0x40000000#32, 0#32] = true := by
  decide +kernel

theorem test_tableClear :
    gives .tableClear (executing .tableClear []) (fun t =>
      t.windows.staging[0] == .zero && t.windows.active[0].valid) = true := by decide +kernel

/-- Step 4 of 11.1.5: entry 1 is not aligned to its size, and COMMIT names it. -/
theorem test_commit_names_the_entry_at_fault :
    gives .commit
      { executing .commit [] with
        windows := { routerA.windows with
          staging := memoryBank.set 1 (entryOfWords 0x8C010105#32 0#32 0x50000800#32 0#32) } } (fun t =>
        answerOf t == some ⟨0x20#8, 0x33#8, [1#32]⟩ && t.windows.generation == 1#16) = true := by decide +kernel

/-- A commit takes effect and returns the new generation, which wraps (R54, R62). -/
theorem test_commit_wraps_the_generation :
    gives .commit { executing .commit [] with windows := { routerA.windows with generation := 65535#16 } } (fun t =>
      answerOf t == some ⟨0x20#8, 0#8, [0#32]⟩ && t.windows.generation == 0#16) = true := by decide +kernel

theorem test_discard :
    gives .discard
      { executing .discard [] with windows := { routerA.windows with staging := Vector.replicate 48 .zero } } (fun t =>
        t.windows.staging == memoryBank) = true := by decide +kernel

/-- An entry ACTIVE for origin L0, tag 0x2A, destination L5, FETCH, window 0, generation 1, 3963 µs (R38). -/
theorem test_trackRead :
    gives .trackRead
      { executing .trackRead [2#32] with
        track := routerA.track.set 2 (some ⟨.active false, 0, 0x2A#8, 5, .fetch 0, 1#16, 3963⟩) } (fun t =>
        answerOf t == some ⟨0x20#8, 0#8, [0x002A0501#32, 0x00010F7B#32]⟩) = true := by decide +kernel

theorem test_lockRead :
    gives .lockRead { executing .lockRead [] with locks := routerA.locks.set 1 (some ⟨5, 4, 750⟩) } (fun t =>
      answerOf t == some ⟨0x20#8, 0#8, [0#32, 0x840502EE#32, 0#32, 0#32]⟩) = true := by decide +kernel

theorem test_breakLock :
    gives .breakLock { executing .breakLock [1#32] with locks := routerA.locks.set 1 (some ⟨5, 4, 750⟩) } (fun t =>
      t.locks[1] == none && faultsOf t == [(.lockBroken, some 4, some 4#8)]) = true := by decide +kernel

/-- Step 2 of 11.1.3: an unset manager port is claimed by L2 and entry 5 becomes L4. -/
theorem test_nodeSet_claims :
    gives .nodeSet { executing .nodeSet [5#32, 4#32] with manager := none, nodeTable := (State.cold 3 none).nodeTable }
      (fun t => t.manager == some 2 && t.nodeTable[5] == .port 4) = true := by decide +kernel

/-- Node 3 is SELF and node 5 is L4 (R39). -/
theorem test_nodeRead :
    answers .nodeRead .nodeRead [] .ok [0xFF4FEFFF#32, 0xFFFFFFFF#32, 0xFFFFFFFF#32, 0xFFFFFFFF#32] = true := by
  decide +kernel

theorem test_setNode_waits_for_its_reply :
    gives .setNode (executing .setNode [31#32]) (fun t => t.node == 3 && t.actions == [⟨.setNode 31, 2⟩]) = true := by
  decide +kernel

theorem test_setManager :
    gives .setManager (executing .setManager [5#32]) (fun t => t.manager == some 5) = true := by decide +kernel

/-- The record of step 1 of 11.3.2, in the layout of R40. -/
theorem test_faultRead :
    gives .faultRead
      { executing .faultRead [1#32] with
        faultList := ⟨[⟨7#16, 5#32, { kind := .replyTimeout, port := some 5, tag := some 6#8, index := some 1#6 }⟩], 8#16,
          .keepOldest⟩ } (fun t =>
        answerOf t == some ⟨0x20#8, 0#8, [0x000752C5#32, 5#32, 0x00000604#32, 0#32]⟩) = true := by decide +kernel

/-- A NO_LINK record with an address, and a HOP_LIMIT record with a detail, in the layout of R40. -/
theorem test_fault_words :
    faultWords ⟨0xABCD#16, 9#32, { kind := .noLink, port := some 1, addr := some 0x123456789ABC#48 }⟩ =
        [0xABCD4141#32, 9#32, 0x12340000#32, 0x56789ABC#32] ∧
      faultWords ⟨1#16, 9#32, { kind := .hopLimit, port := some 2, detail := some 7#8 }⟩ =
        [0x00014C42#32, 9#32, 0#32, 7#32] := by decide +kernel

/-- The list of 11.5 after step 2. -/
def listOf115 : FaultList :=
  ⟨(List.range 32).map fun i => ⟨BitVec.ofNat 16 (101 + i), 0#32, { kind := .noRoute }⟩, 133#16, .keepNewest⟩

/-- Steps 3 and 5 of 11.5: a pop with a stale sequence removes nothing, and one with the oldest removes 4. -/
theorem test_faultPop_is_guarded :
    gives .faultPop { executing .faultPop [4#32, 100#32] with faultList := listOf115 } (fun t =>
      t.faultList == listOf115 && answerOf t == some ⟨0x20#8, 0x31#8, []⟩) = true ∧
    gives .faultPop { executing .faultPop [4#32, 101#32] with faultList := listOf115 } (fun t =>
      (t.faultList.records.map FaultRecord.seq) == (List.range 28).map fun i => BitVec.ofNat 16 (105 + i)) = true := by
  decide +kernel

theorem test_faultPolicy :
    gives .faultPolicy (executing .faultPolicy [1#32]) (fun t => t.faultList.policy == .keepNewest) = true := by
  decide +kernel

theorem test_alertSet_refuses_the_own_node :
    answers .alertSet .alertSet [3#32] .badArgument [] = true ∧
      gives .alertSet (executing .alertSet [0#32]) (fun t => t.settings.alertNode == some 0) = true := by decide +kernel

/-- Step 8 of 11.5: with records held the alert is raised at once, and the note carries sequence 137 and count 32. -/
theorem test_alertArm_builds_the_note :
    gives .alertArm
      { executing .alertArm [] with
        nodeTable := routerA.nodeTable.set 0 (.port 1)
        settings := { routerA.settings with alertNode := some 0 }
        faultList :=
          ⟨(List.range 32).map fun i => ⟨BitVec.ofNat 16 (105 + i), 0#32, { kind := .noRoute }⟩, 138#16, .keepOldest⟩
        ports := routerA.ports.set 1 { upPort with credits := ⟨0, 8⟩ } } (fun t =>
        t.alert == ⟨false, false, some ⟨1, { blank with kind := .note, length := 2#5, source := 3#8, hop := 15#8,
                                                        payload := [0x89#32, 0x20#32] }, false⟩⟩) = true := by
  decide +kernel

/-- Code 0x0C is not in the table of R34 (R132). -/
theorem test_unknownCommand :
    gives .unknownCommand { routerA with mgmt := .executing ⟨2, 0x20#8, 0x0C#8, 0#5, []⟩ } (fun t =>
      answerOf t == some ⟨0x20#8, 0x30#8, []⟩) = true := by decide +kernel

/-- A modifying directive from a port that is not the manager port changes nothing (R142). -/
theorem test_not_the_manager :
    gives .setTombstone { executing .setTombstone [10#32] with manager := some 0 } (fun t =>
      t.settings.tombstone == 2000 && answerOf t == some ⟨0x20#8, 0x32#8, []⟩) = true := by decide +kernel

/-! ### Witnesses: a state and operands that meet the hypotheses of each statement, clause by clause -/

/-- The router while RST# is low. -/
def lowState : State := { State.reset with resetLow := true }

/-- A port that is OFF. -/
def silentOff (r : PortRec) : PortRec := { r with link := .off, tx := none }

/-- Router A with one entry of each state that counts or does not count, a held lock, and a record held. -/
def busyA : State :=
  { routerA with
    pending := [.timeBaseTick]
    track :=
      ((((routerA.track.set 0 (some ⟨.active false, 0, 0x41#8, 5, .storeC 0, 1#16, 0⟩)).set 1
        (some ⟨.orphaned, 1, 0x42#8, 5, .fetch 0, 1#16, 0⟩)).set 2
        (some ⟨.tombstone, 1, 0x43#8, 5, .fetch 0, 1#16, 0⟩)).set 3
        (some ⟨.replyDue .timeout, 1, 0x44#8, 5, .fetch 0, 1#16, 0⟩)).set 4
        (some ⟨.active true, 1, 0x45#8, 4, .directive 5, 1#16, 9⟩)
    locks := routerA.locks.set 0 (some ⟨0, 0, 0⟩) }

/-- A router whose port L1 holds this head and head state. -/
def withHead (r : Request) (h : HeadState) : State :=
  routerA.modifyPort 1 fun q => { q with reqLane := [r], head := h }

/-- The resolution of a FETCH to window 0 on L5. -/
def toMemory : Resolution := ⟨.memory 0 5 0x40000100#48, 1#16⟩

/-- A well-formed FETCH of window 0. -/
def fetchHead : Request := { blank with tag := 0x2A#8, length := 4#5, addr := 0x40000100#48 }

/-- A DIRECTIVE for a node, with a hop limit. -/
def directiveHead (n hop : Byte) : Request := { blank with kind := .directive, target := n, hop := hop, command := 1#8 }

/-- The UNFENCE of L1 for node 3. -/
def unfenceHead : Request :=
  { directiveHead 3#8 0#8 with command := 0x07#8, length := 1#5, payload := [1#32] }

/-- Router A with L1 fenced and the manager port: its UNFENCE waits at the M arbiter while the Management Unit executes; the
node number is `n` by now, and a lock of L0 runs out. -/
def waitingUnfence (n : Node) : State :=
  { routerA.modifyPort 1 (fun q =>
      { q with fenced := true, reqLane := [unfenceHead], head := .offered ⟨.management, 1#16⟩ }) with
    node := n, manager := some 1, mgmt := .executing (directive .identify []), locks := busyA.locks }

/-- A NOTE for a node, with a hop limit. -/
def noteHead (n hop : Byte) : Request :=
  { blank with kind := .note, length := 2#5, target := n, hop := hop, payload := [0#32, 0#32] }

/-- Router A executing a directive whose argument count is the command's is past steps 1 to 3 of R132. -/
theorem accepted_executing (c : Command) (args : List Word) (h : args.length = c.argCount) :
    Accepted c (directive c args) (executing c args) := by
  refine ⟨⟨rfl, rfl, rfl⟩, .inr (.inl rfl), ?_⟩
  have h5 : c.argCount < 32 := by cases c <;> decide
  simp only [directive, BitVec.toNat_ofNat, h]
  exact Nat.mod_eq_of_lt h5

theorem witness_StepRunsTheFrontCommand :
    busyA.pending = .timeBaseTick :: [] ∧ State.reset.pending = [] := ⟨rfl, rfl⟩

theorem witness_RisingEdgeGivesColdValues :
    lowState.resetLow = true ∧ State.reset.resetLow = false ∧ (0#3).toNat ≤ 5 ∧ (5#3).toNat ≤ 5 ∧ 5 < (6#3).toNat ∧
      5 < (7#3).toNat := by decide +kernel

theorem witness_FallingEdgeStopsTheRouter :
    State.reset.resetLow = false ∧ lowState.resetLow = true ∧ ∀ n m, Instr.timeBaseTick ≠ .coldResetRelease n m :=
  ⟨rfl, rfl, nofun⟩

/-- Ports that are OFF and not, a list that keeps the WARM_RESET record and one that does not, and an armed alert path. -/
theorem witness_WarmResetClearsTrafficAndKeepsTables :
    (State.reset.port 0).link ≠ .off ∧ ((State.reset.modifyPort 0 silentOff).port 0).link = .off ∧
      State.reset.faultList.records.length < 32 ∧ ¬ listOf115.records.length < 32 ∧
      ({ listOf115 with policy := .keepOldest } : FaultList).policy ≠ .keepNewest ∧
      ({ routerA with alert := ⟨true, false, none⟩ } : State).alert.armed = true ∧
      ({ routerA.settings with alertNode := some 5 } : Settings).alertNode ≠ none := by decide +kernel

theorem witness_TickCountsRunningTimers :
    busyA.resetLow = false ∧ (busyA.track[0].map TrackEntry.state) = some (.active false) ∧
      (busyA.track[4].map TrackEntry.state) = some (.active true) ∧ busyA.track[63] = none := by decide +kernel

theorem witness_TrainingTimersSendAndCount :
    (∀ tx ∈ [none, some (⟨firstHello 0, false⟩ : Transmission)], ∃ s : State, s.resetLow = false ∧
      (s.port 2).link = .training ∧ (s.port 2).helloTimer = some 0 ∧ (s.port 2).tx = tx) ∧
    (∀ h ∈ [false, true], ∀ k ∈ [0, 2, 3], ∀ m ∈ [none, some (2 : Port)], ∃ s : State, s.resetLow = false ∧
      (s.port 2).link = .training ∧ (s.port 2).attemptTimer = some 0 ∧ (s.port 2).heard = h ∧
      (s.port 2).attempts = k ∧ s.manager = m) :=
  ⟨fun tx _ => ⟨State.reset.modifyPort 2 fun r => { r with helloTimer := some 0, tx := tx }, rfl, rfl, rfl, rfl⟩,
   fun h _ k _ m _ => ⟨(State.cold 0 m).modifyPort 2 fun r => { r with attemptTimer := some 0, heard := h, attempts := k },
     rfl, rfl, rfl, rfl, rfl, rfl⟩⟩

/-- Every kind of entry whose time can run out, with room in the origin's queue and without, and a lock at 0. -/
theorem witness_ExpiriesEndTheirOwners :
    busyA.resetLow = false ∧ busyA.track[0] = some ⟨.active false, 0, 0x41#8, 5, .storeC 0, 1#16, 0⟩ ∧
      busyA.isUp 0 = true ∧ (busyA.port 0).replyQueue.length < 8 ∧
      8 ≤ ((busyA.modifyPort 0 fun r => { r with replyQueue := List.replicate 8 ⟨⟨0, 0, []⟩, false⟩ }).port
        0).replyQueue.length ∧
      busyA.track[1] = some ⟨.orphaned, 1, 0x42#8, 5, .fetch 0, 1#16, 0⟩ ∧
      busyA.track[2] = some ⟨.tombstone, 1, 0x43#8, 5, .fetch 0, 1#16, 0⟩ ∧
      busyA.locks[0] = some ⟨0, 0, 0⟩ := by decide +kernel

/-- HELLOs with offers at both ends of their ranges, and one past each end. -/
theorem witness_HelloIsAcceptedInTraining :
    State.reset.resetLow = false ∧ (State.reset.port 4).link = .training ∧ (State.reset.port 4).seen = false ∧
      parse (wireBytes (.hello 5 1 1 false)) = .parcel (.hello 5 1 1 false) ∧
      parse (wireBytes (.hello 5 12 8 true)) = .parcel (.hello 5 12 8 true) ∧
      parse (wireBytes (.hello 5 0 8 true)) = .parcel (.hello 5 0 8 true) ∧
      parse (wireBytes (.hello 5 12 9 true)) = .parcel (.hello 5 12 9 true) ∧
      ((State.reset.modifyPort 4 fun r => { r with seen := true }).port 4).seen = true := by decide +kernel

theorem witness_HelloInUp :
    routerA.resetLow = false ∧ (routerA.port 4).link = .up ∧ routerA.actions = [] ∧
      parse (wireBytes (.hello 5 12 8 true)) = .parcel (.hello 5 12 8 true) ∧
      parse (wireBytes (.hello 5 12 8 false)) = .parcel (.hello 5 12 8 false) ∧
      parse (wireBytes (.hello 5 13 8 false)) = .parcel (.hello 5 13 8 false) := by decide +kernel

/-- An UP port with 11 requests, and one with 7 replies: one slot is left in each lane. -/
theorem witness_ParcelsInUpAreSorted :
    routerA.resetLow = false ∧ (routerA.port 3).link = .up ∧ (routerA.port 3).offers = some ⟨12, 8⟩ ∧
      ((routerA.modifyPort 3 fun r => { r with reqLane := List.replicate 11 blank }).port 3).reqLane.length < 12 ∧
      ((routerA.modifyPort 3 fun r => { r with repLane := List.replicate 7 ⟨0, 0, []⟩ }).port 3).repLane.length < 8 ∧
      parse (requestBytes blank) = .parcel (.request ⟨0, 0⟩ blank) ∧
      parse (replyBytes 1 0 []) = .parcel (.reply ⟨0, 0⟩ ⟨1, 0, []⟩) ∧
      parse (wireBytes (.credit ⟨12, 8⟩)) = .parcel (.credit ⟨12, 8⟩) ∧
      parse (unknownHeader ++ bytesOfWord (crc unknownHeader)) = .unknownKind := by decide +kernel

theorem witness_DiscardedParcelsChangeNothing :
    ((State.reset.modifyPort 0 silentOff).port 0).link = .off ∧
      ((State.reset.modifyPort 0 fun r => { r with link := .halted }).port 0).link = .halted ∧
      (State.reset.port 0).link = .training := by decide +kernel

/-- The four parcels that cause link loss, at a port in UP. -/
theorem witness_LosesLink :
    LosesLink 0 { kind := .linkCheck, port := some 0 } (.damagedParcel 0 []) routerA ∧
    LosesLink 4 { kind := .linkLost, port := some 4, detail := some 1#8 }
      (.helloReceiveUp 4 (wireBytes (.hello 5 12 8 false))) routerA ∧
    LosesLink 3 { kind := .overrun, port := some 3, detail := some 1#8 } (.requestParcelReceive 3 (requestBytes blank))
      (routerA.modifyPort 3 fun r => { r with reqLane := List.replicate 12 blank }) ∧
    LosesLink 3 { kind := .overrun, port := some 3, detail := some 2#8 } (.replyParcelReceive 3 (replyBytes 1 0 []))
      (routerA.modifyPort 3 fun r => { r with repLane := List.replicate 8 ⟨0, 0, []⟩ }) ∧
    routerA.faultList.policy = .keepOldest ∧ routerA.faultList.records.length < 32 ∧ routerA.actions = [] :=
  ⟨⟨rfl, rfl, .inl ⟨_, rfl, by decide +kernel, rfl⟩⟩,
   ⟨rfl, rfl, .inr (.inl ⟨_, _, _, _, rfl, witness_HelloInUp.2.2.2.2.1, rfl⟩)⟩,
   ⟨rfl, rfl, .inr (.inr (.inl ⟨_, _, _, rfl, witness_ParcelsInUpAreSorted.2.2.2.2.2.1, by decide +kernel, rfl⟩))⟩,
   ⟨rfl, rfl, .inr (.inr (.inr ⟨_, _, _, rfl, witness_ParcelsInUpAreSorted.2.2.2.2.2.2.1, by decide +kernel, rfl⟩))⟩,
   rfl, by decide +kernel, rfl⟩

/-- A port that sends a parcel, with no HELLO waiting and with one, and one that sends the queued alert note. -/
theorem witness_ParcelLeftFreesTheTransmitter :
    (routerA.port 0).tx = none ∧ State.reset.resetLow = false ∧ (State.reset.port 0).tx = some ⟨firstHello 0, false⟩ ∧
      State.reset.alert.queued = none ∧
      (State.reset.port 0).helloDue = 0 ∧
      ((State.reset.modifyPort 0 fun r => { r with helloDue := 1 }).port 0).helloDue = 0 + 1 ∧
      ({ State.reset with alert := ⟨false, false, some ⟨0, noteHead 1#8 15#8, true⟩⟩ } : State).alert.queued =
        some ⟨0, noteHead 1#8 15#8, true⟩ := by decide +kernel

/-- A tied reply on L2 and its action; ports in each link state; no queued note, one at L2 itself that is not the parcel that
left, and one that another port sends. -/
theorem witness_DeferredActionFollowsItsReply :
    ∀ l ∈ [LinkState.off, .training, .up, .halted], ∀ k ∈ [ActionKind.disable 1, .restart 1, .resetRouter, .setNode 3,
        .setNode 7], ∀ n ∈ [none, some ⟨2, noteHead 1#8 15#8, false⟩, some ⟨4, noteHead 1#8 15#8, true⟩], ∃ s : State,
      s.resetLow = false ∧ (s.port 2).tx = some ⟨.reply ⟨0, 0⟩ ⟨0, 0, []⟩, true⟩ ∧
      (s.port 2).helloDue = 0 ∧ (∀ q, s.alert.queued = some q → q.out = 2 → q.sending = false) ∧ s.alert.queued = n ∧
      s.actions.find? (fun b => b.origin == 2) = some ⟨k, 2⟩ ∧
      (s.port 1).link = l ∧ (s.port 1).tx = none ∧ s.actions.erase ⟨k, 2⟩ = [] ∧ s.node = 3 ∧
      ((s.modifyPort 1 fun r => { r with tx := some ⟨firstHello 3, false⟩ }).port 1).tx ≠ none :=
  fun l _ k _ n hn =>
    ⟨{ ((routerA.modifyPort 2 fun r => { r with tx := some ⟨.reply ⟨0, 0⟩ ⟨0, 0, []⟩, true⟩ }).modifyPort 1 fun r =>
        { r with link := l }) with actions := [⟨k, 2⟩], alert := ⟨false, false, n⟩ },
      rfl, rfl, rfl, by
        simp only [List.mem_cons, List.not_mem_nil, or_false] at hn
        rcases hn with rfl | rfl | rfl <;> intro q hq <;> cases hq <;> decide, rfl, rfl, rfl, rfl, by simp, rfl, nofun⟩

/-- Replies with the tags at both ends of the entries and past them, and entries of every state. -/
theorem witness_RepliesAreMatchedByTagAndPort :
    busyA.resetLow = false ∧ (∀ r : Reply, ((busyA.modifyPort 5 fun q => { q with repLane := [r] }).port 5).repLane = [r]) ∧
      63 < (64#8).toNat ∧ (63#8).toNat = (63 : Fin 64).val ∧ (0#8).toNat = (0 : Fin 64).val ∧ busyA.track[63] = none ∧
      (busyA.track[4].map TrackEntry.dest) = some 4 ∧ (busyA.track[4].map TrackEntry.state) = some (.active true) ∧
      (busyA.track[0].map TrackEntry.dest) = some 5 ∧ (busyA.track[0].map TrackEntry.state) = some (.active false) ∧
      (busyA.track[1].map TrackEntry.state) = some .orphaned ∧ (busyA.track[2].map TrackEntry.state) = some .tombstone ∧
      (busyA.track[3].map TrackEntry.state) = some (.replyDue .timeout) ∧ busyA.isUp 0 = true ∧
      (busyA.port 0).replyQueue.length < 8 ∧
      8 ≤ ((busyA.modifyPort 0 fun r => { r with replyQueue := List.replicate 8 ⟨⟨0, 0, []⟩, false⟩ }).port
        0).replyQueue.length :=
  ⟨rfl, fun _ => rfl, by decide +kernel⟩

/-- A fenced port with a posted head, a non-posted one, and the UNFENCE that passes; malformed heads of both kinds. -/
theorem witness_FenceAndFormComeFirst :
    (∀ h : Request, ((withHead h .unexamined).port 1).reqLane = [h]) ∧
      ((withHead blank .unexamined).port 1).fenced = false ∧ malformation blank = some .length ∧
      malformation { blank with kind := .store } = some .length ∧
      (((withHead blank .unexamined).modifyPort 1 fun r => { r with fenced := true }).port 1).fenced = true ∧
      ({ directiveHead 3#8 0#8 with command := 7#8 } : Request).target.toNat = routerA.node.val ∧
      ((withHead blank .unexamined).port 1).link = .up ∧ ((withHead blank .unexamined).port 1).replyQueue.length < 8 ∧
      8 ≤ (((withHead blank .unexamined).modifyPort 1 fun r =>
        { r with replyQueue := List.replicate 8 ⟨⟨0, 0, []⟩, false⟩ }).port 1).replyQueue.length :=
  ⟨fun _ => rfl, by decide +kernel⟩

/-- Heads for the own node 3, for node 5 behind L4, and for node 7, which is UNREACHABLE; hop limits 0 and 15; and the UNFENCE
that passes the fence of the manager port. -/
theorem witness_DirectivesAndNotesResolveByNode :
    (∀ h : Request, ((withHead h .unexamined).port 1).reqLane = [h]) ∧
      (∀ h, ((withHead h .unexamined).port 1).fenced = false) ∧
      (∀ n ∈ [3#8, 5#8, 7#8], ∀ hop ∈ [0#8, 15#8], malformation (directiveHead n hop) = none ∧
        malformation (noteHead n hop) = none) ∧
      routerA.node = 3 ∧ routerA.nodeTable[5] = .port 4 ∧ routerA.nodeTable[7] = .unreachable ∧
      malformation unfenceHead = none ∧ unfenceHead.kind = .directive ∧ unfenceHead.target.toNat = routerA.node.val ∧
      unfenceHead.command = 0x07#8 ∧ (waitingUnfence 3).manager = some 1 ∧ ((waitingUnfence 3).port 1).fenced = true :=
  ⟨fun _ => rfl, fun _ => rfl, by decide +kernel⟩

/-- Addresses in no window, of a kind not admitted, and routed, for each kind of head. -/
theorem witness_AddressesResolveByWindow :
    (∀ h : Request, ((withHead h .unexamined).port 1).reqLane = [h] ∧ ((withHead h .unexamined).port 1).fenced = false ∧
      (withHead h .unexamined).windows.active = memoryBank) ∧
    lookup memoryBank 1 { fetchHead with addr := 0x50000000#48 } = .noRoute ∧
      lookup memoryBank 1 { fetchHead with kind := .swap } = .denied 0 ∧ lookup memoryBank 2 fetchHead = .denied 0 ∧
      lookup memoryBank 1 fetchHead = .routed 0 5 0x40000100#48 ∧
      (∀ k ∈ [ReqKind.claim, .release], lookup memoryBank 1 { blank with kind := k, addr := 0x40FFFFFC#48 } =
        .routed 0 5 0x40FFFFFC#48 ∧ malformation { blank with kind := k, addr := 0x40FFFFFC#48 } = none) ∧
      malformation fetchHead = none ∧
      malformation { fetchHead with kind := .store, payload := [0#32, 0#32, 0#32, 0#32] } = none :=
  ⟨fun _ => ⟨rfl, rfl, rfl⟩, by decide +kernel⟩

/-- Outputs that are UP and not, a lock held by the head's port, by another port, and by none; a fenced head, and the UNFENCE
that passes again. -/
theorem witness_OutputLinkAndLockChecks :
    toMemory.route.output = some 5 ∧ ((withHead fetchHead (.offered toMemory)).port 5).link = .up ∧
      (((withHead fetchHead (.offered toMemory)).modifyPort 5 silentOff).port 5).link ≠ .up ∧
      toMemory.route = .memory 0 5 0x40000100#48 ∧ busyA.locks[0] = some ⟨0, 0, 0⟩ ∧
      (∀ l ∈ (withHead fetchHead (.offered toMemory)).locks.toList, l = none) ∧
      ((withHead fetchHead (.offered toMemory)).port 1).head = .offered toMemory ∧
      ((withHead fetchHead (.lockWait toMemory)).port 1).head = .lockWait toMemory ∧
      ((withHead fetchHead (.lockWait toMemory)).port 1).fenced = false ∧
      (((withHead fetchHead (.lockWait toMemory)).modifyPort 1 fun r => { r with fenced := true }).port 1).fenced =
        true ∧
      ((waitingUnfence 7).port 1).reqLane = [unfenceHead] ∧
      ((waitingUnfence 7).port 1).head = .offered ⟨.management, 1#16⟩ ∧ ((waitingUnfence 7).port 1).fenced = true ∧
      (waitingUnfence 7).manager = some 1 ∧ Route.output .management = none := by decide +kernel

/-- An UNFENCE that passed the fence of the manager port and waits at the M arbiter passes again when a lock runs out, though
the node number has moved from 3 to 7 since (R68, R122, R126); with another manager port it is refused FENCED. -/
theorem test_unfence_passes_again :
    gives (.lockHoldExpiry 0) (waitingUnfence 7) (fun t => (t.port 1).head == .offered ⟨.management, 1#16⟩) = true ∧
      gives (.lockHoldExpiry 0) { waitingUnfence 7 with manager := some 0 } (fun t =>
        (t.port 1).reqLane == [] && (t.port 1).tx == some ⟨.reply ⟨1, 0⟩ ⟨0#8, 0x13#8, []⟩, false⟩) = true := by
  decide +kernel

/-- Router A with L1 fenced and its fenced-drop count at the largest value. -/
def fencedA : State := routerA.modifyPort 1 fun r => { r with fenced := true, fencedDrops := 65535 }

/-- The same with the Reply Queue of L1 full and no reply credit. -/
def fullFencedA : State :=
  fencedA.modifyPort 1 fun r => { r with replyQueue := List.replicate 8 ⟨⟨0, 0, []⟩, false⟩, credits := ⟨12, 0⟩ }

/-- A fenced port of a router at rest, with its counter at the largest value; with its Reply Queue full; as the manager port
with the Management Unit IDLE and executing. A directive that is refused, and the UNFENCE that passes. -/
theorem witness_FencedPortsTakeNoRequests :
    internalActions fullFencedA = [] ∧ (fullFencedA.port 1).fenced = true ∧ (fullFencedA.port 1).reqLane = [] ∧
      8 ≤ (fullFencedA.port 1).replyQueue.length ∧ (directiveHead 5#8 1#8).target.toNat ≠ fencedA.node.val ∧
      parse (requestBytes (directiveHead 5#8 1#8)) = .parcel (.request ⟨0, 0⟩ (directiveHead 5#8 1#8)) ∧
      parse (requestBytes unfenceHead) = .parcel (.request ⟨0, 0⟩ unfenceHead) ∧
      unfenceHead.target.toNat = fencedA.node.val ∧ malformation unfenceHead = none ∧
      internalActions { fencedA with manager := some 1 } = [] ∧ fencedA.mgmt = .idle ∧
      internalActions { fencedA with manager := some 1, mgmt := .executing (directive .identify []) } = [] ∧
    fencedA.resetLow = false ∧ internalActions fencedA = [] ∧ (fencedA.port 1).link = .up ∧
      (fencedA.port 1).fenced = true ∧ (fencedA.port 1).reqLane = [] ∧ (fencedA.port 1).replyQueue.length < 8 ∧
      parse (requestBytes { blank with kind := .store }) = .parcel (.request ⟨0, 0⟩ { blank with kind := .store }) ∧
      parse (requestBytes blank) = .parcel (.request ⟨0, 0⟩ blank) := by decide +kernel

/-- The first and the last address of the window, and the addresses beside them. -/
theorem witness_LookupTakesTheLowestWindow :
    matchWindow memoryBank 0x40000000#48 = some 0 ∧ matchWindow memoryBank 0x40FFFFFF#48 = some 0 ∧
      matchWindow memoryBank 0x3FFFFFFF#48 = none ∧ matchWindow memoryBank 0x41000000#48 = none := by decide +kernel

/-- A span that ends with the window, and one that runs past it by a word. -/
theorem witness_TheMatchingEntryDecides :
    matchWindow memoryBank 0x40FFFFF0#48 = some 0 ∧ entryPasses memoryBank[0] = true ∧
      (0x40FFFFF0#48).toNat + 4 * 4 ≤ memoryBank[0].base.toNat + 2 ^ memoryBank[0].exponent.toNat ∧
      memoryBank[0].base.toNat + 2 ^ memoryBank[0].exponent.toNat < (0x40FFFFF0#48).toNat + 4 * 5 ∧
      memoryBank[0].origins.getLsbD 1 = true ∧ memoryBank[0].origins.getLsbD 2 = false ∧
      memoryBank[0].kinds.getLsbD 0 = true ∧ memoryBank[0].kinds.getLsbD 3 = false := by decide +kernel

/-- Link losses at a router with no deferred action and a list of the oldest records with room; and a lock to break. -/
theorem witness_LinkLossRecordsItsOwnFaultFirst :
    LosesLink 0 { kind := .linkCheck, port := some 0 } (.damagedParcel 0 []) routerA ∧
      routerA.faultList.policy = .keepOldest ∧ routerA.faultList.records.length < 32 ∧
      busyA.faultList.policy = .keepOldest ∧ busyA.faultList.records.length + 5 ≤ 32 ∧ HoldsLock 0 busyA ∧
      ¬ HoldsLock 5 routerA ∧ HeadWaits ((withHead fetchHead (.lockWait toMemory)).port 1) ∧
      ¬ HeadWaits (routerA.port 1) :=
  ⟨witness_LosesLink.1, rfl, by decide +kernel, rfl, by decide +kernel, ⟨0, ⟨0, 0, 0⟩, by decide +kernel⟩,
   by unfold HoldsLock; decide +kernel, ⟨toMemory, .inr rfl⟩, fun ⟨_, h⟩ => by rcases h with h | h <;> cases h⟩

/-- The break of the lock of L0 marks the head of L1 that waits for its window, and the break of no lock marks none (R115). -/
theorem test_break_marks_the_waiting_head :
    let s := { withHead fetchHead (.lockWait toMemory) with locks := busyA.locks }
    ((breakHeldBy 0 .fence s).port 1).recheck = true ∧ ((breakHeldBy 2 .fence s).port 1).recheck = false := by
  decide +kernel

/-- Two locks of L0 broken at an overrun: the OVERRUN record, then one record each with detail FENCE, in order (R115, R117). -/
theorem test_overrun_breaks_with_detail_fence :
    ((loseLink 0 .overrunReply { routerA with locks := #v[some ⟨7, 0, 9⟩, some ⟨8, 1, 9⟩, none, some ⟨9, 0, 9⟩] }
        ).faultList.records.map fun f => (f.seq, f.report.kind, f.report.index, f.report.detail)) =
      [(0#16, .overrun, none, some 2#8), (1#16, .lockBroken, some 7#6, some 3#8),
        (2#16, .lockBroken, some 9#6, some 3#8)] := by decide +kernel

theorem witness_LinkLossEmptiesThePort :
    LosesLink 0 { kind := .linkCheck, port := some 0 } (.damagedParcel 0 []) routerA ∧ routerA.actions = [] :=
  ⟨witness_LosesLink.1, rfl⟩

/-- A loss of L0, and what losses of L1, L4 and L5 meet: an entry with its reply in hand at L4, a REPLY_DUE entry, an ACTIVE
entry that loses its destination, a head resolved to L5, and a node behind L4, where a withdrawn note may go. -/
theorem witness_LinkLossReachesEveryBlock :
    LosesLink 0 { kind := .linkCheck, port := some 0 } (.damagedParcel 0 []) busyA ∧
      busyA.resetLow = false ∧ (busyA.port 0).link = .up ∧
      InHandFor 1 4 4 (busyA.modifyPort 4 fun r => { r with repLane := [⟨4, 0, []⟩] }) ∧
      busyA.track[3] = some ⟨.replyDue .timeout, 1, 0x44#8, 5, .fetch 0, 1#16, 0⟩ ∧
      busyA.track[0] = some ⟨.active false, 0, 0x41#8, 5, .storeC 0, 1#16, 0⟩ ∧ busyA.isUp 0 = true ∧
      busyA.nodeTable[5] = .port 4 ∧ (busyA.port 4).link = .up ∧
      HeadedFor 5 ((withHead fetchHead (.lockWait toMemory)).port 1) :=
  ⟨⟨rfl, rfl, .inl ⟨_, rfl, by decide +kernel, rfl⟩⟩, rfl, rfl,
   ⟨⟨.active true, 1, 0x45#8, 4, .directive 5, 1#16, 9⟩, by decide +kernel⟩, by decide +kernel, by decide +kernel,
   by decide +kernel, by decide +kernel, rfl, ⟨toMemory, .inr rfl, .inl ⟨0, 0x40000100#48, rfl⟩⟩⟩

/-- A loss of L5 answers the one request of L0 with LINK_LOST, in a queue with room, and entombs it (R101). -/
theorem test_destination_lost :
    (loseLink 5 .disabled busyA).track[0] = some ⟨.tombstone, 0, 0x41#8, 5, .storeC 0, 1#16, 2000⟩ ∧
      ((loseLink 5 .disabled busyA).port 0).replyQueue = [⟨⟨0x41#8, 0x21#8, []⟩, false⟩] ∧
      ((loseLink 5 .disabled busyA).port 5).link = .off ∧
      (loseLink 5 .disabled busyA).track[3] = busyA.track[3] := by decide +kernel

/-- The note queued at L4 is withdrawn at its link loss, and its alert waits again: its node stands behind L4 alone (R179). -/
theorem test_note_is_withdrawn :
    (loseLink 4 .restart
        { routerA with
          alert := ⟨false, false, some ⟨4, noteHead 5#8 15#8, true⟩⟩
          settings := { routerA.settings with alertNode := some 5 } }).alert = ⟨false, true, none⟩ := by decide +kernel

theorem witness_ReadOnlyDirectivesChangeNothing :
    Command.identify.readOnly = true ∧ Executing .identify (directive .identify [1#32]) (executing .identify [1#32]) :=
  ⟨rfl, rfl, rfl, rfl⟩

/-- Another port is the manager port; and none is, with the directive's own port HALTED. -/
theorem witness_OthersThanTheManagerAreRefused :
    Command.setTombstone.readOnly = false ∧
      Executing .setTombstone (directive .setTombstone [10#32]) { executing .setTombstone [10#32] with manager := some 0 } ∧
      (0 : Port) ≠ (directive .setTombstone [10#32]).origin ∧
      Executing .setTombstone (directive .setTombstone [10#32])
        { (executing .setTombstone [10#32]).modifyPort 2 (fun r => { r with link := .halted }) with manager := none } ∧
      (((executing .setTombstone [10#32]).modifyPort 2 fun r => { r with link := .halted }).port 2).link = .halted :=
  ⟨rfl, ⟨rfl, rfl, rfl⟩, by decide, ⟨rfl, rfl, rfl⟩, rfl⟩

/-- An unknown code, a wrong count with authority, and a unit that executes nothing. -/
theorem witness_WrongCodeOrCountChangesNothing :
    ({ routerA with mgmt := .executing ⟨2, 0x20#8, 0x0C#8, 0#5, []⟩ } : State).mgmt =
        .executing ⟨2, 0x20#8, 0x0C#8, 0#5, []⟩ ∧ (∀ c : Command, 0x0C#8 ≠ c.code) ∧
      Executing .setTombstone (directive .setTombstone []) (executing .setTombstone []) ∧
      Authorised (directive .setTombstone []) (executing .setTombstone []) ∧
      (directive .setTombstone []).length.toNat ≠ Command.setTombstone.argCount ∧ routerA.mgmt = .idle :=
  ⟨rfl, fun c => by cases c <;> decide, ⟨rfl, rfl, rfl⟩, .inl rfl, by decide, rfl⟩

/-- A port of router A is the plain UP port, whichever it is. -/
theorem busyA_port (p : Port) : busyA.port p = upPort := by
  revert p; decide +kernel

/-- The laws hold in a state with traffic, where a tick takes place; its ports may also be OFF, HALTED or training. -/
theorem witness_EveryStepKeepsTheLinkLaw :
    LinkLaw busyA ∧ SilenceLaw busyA ∧ (∃ t, step busyA = .next t) ∧
      SilenceLaw (((busyA.modifyPort 1 fun r => { r with link := .off }).modifyPort 2 fun r =>
        { r with link := .halted }).modifyPort 3 fun r =>
          { r with link := .training, helloTimer := some 10, attemptTimer := some 200, tx := some ⟨firstHello 3, false⟩ }) := by
  refine ⟨fun p => ?_, by unfold SilenceLaw; decide +kernel, ⟨_, rfl⟩, by unfold SilenceLaw; decide +kernel⟩
  rw [busyA_port p]
  refine ⟨by decide, by decide, ?_, by decide, by decide, by decide⟩
  rintro o h
  cases h
  decide

theorem witness_EveryStepKeepsTheLockLaw : LockLaw busyA := by
  have h : ∀ r : Fin 4, busyA.locks[r] = if r = 0 then some ⟨0, 0, 0⟩ else none := by decide +kernel
  refine ⟨fun r q l k hr hq _ => ?_, fun r l hr => ?_⟩
  · rw [h] at hr hq
    split at hr <;> split at hq <;> simp_all
  · rw [busyA_port]
    exact ⟨rfl, rfl⟩

theorem witness_EveryStepKeepsTheTrackingLaws : TagLaw busyA ∧ OriginLaw busyA := by
  have h : ∀ i : Fin 64, ∀ e ∈ busyA.track[i],
      busyA.isUp e.origin = true ∧ (e.state.blocksTag = true → e.tag = BitVec.ofNat 8 (0x41 + i.val)) := by
    decide +kernel
  refine ⟨fun i j e f hi hj he hf _ ht => ?_, fun i e hi _ => (h i e hi).1⟩
  have h1 := (h i e hi).2 he
  have h2 := (h j f hj).2 hf
  rw [h1, h2] at ht
  have h3 := congrArg BitVec.toNat ht
  simp only [BitVec.toNat_ofNat] at h3
  omega

theorem witness_EveryStepKeepsTheTableLaws :
    WindowLaw busyA ∧ busyA.windows.active[0].valid = true ∧ NodeLaw busyA := by
  refine ⟨?_, by decide +kernel, ?_⟩
  · unfold WindowLaw; decide +kernel
  · unfold NodeLaw; decide +kernel

theorem witness_EveryStepKeepsTheManagerLaw : ManagerLaw busyA ∧ busyA.manager = some 2 := by
  refine ⟨?_, rfl⟩
  unfold ManagerLaw; decide +kernel

theorem witness_EveryStepKeepsTheFaultListLaw :
    FaultListLaw busyA ∧ FaultListLaw { busyA with faultList := listOf115, fltLow := true } := by
  unfold FaultListLaw; decide +kernel

theorem witness_EveryStepKeepsTheCapacityLaw : CapacityLaw busyA := by
  unfold CapacityLaw PortRec.withinCapacity; decide +kernel

theorem witness_EveryStepEndsAtRest : Quiet busyA := by
  unfold Quiet; decide +kernel

/-- A lock of the claimant, of another port, records free, and all four held. -/
theorem witness_LockTableDecidesClaimsAndReleases :
    LockLaw busyA ∧ busyA.locks[0] = some ⟨0, 0, 0⟩ ∧ busyA.locks[1] = none ∧
      (∀ q : Fin 4, q < 1 → busyA.locks[q] ≠ none) ∧
      LockLaw { routerA with locks := #v[some ⟨0, 0, 9⟩, some ⟨1, 0, 9⟩, some ⟨2, 1, 9⟩, some ⟨47, 5, 9⟩] } := by
  refine ⟨witness_EveryStepKeepsTheLockLaw, by decide +kernel, by decide +kernel, by decide +kernel, ?_⟩
  have h : ∀ r : Fin 4, (#v[some ⟨0, 0, 9⟩, some ⟨1, 0, 9⟩, some ⟨2, 1, 9⟩, some ⟨47, 5, 9⟩] : Vector (Option Lock) 4)[r] =
      some ⟨if r = 3 then 47 else ⟨r.val, by omega⟩, if r = 3 then 5 else if r = 2 then 1 else 0, 9⟩ := by decide +kernel
  refine ⟨fun r q l k hr hq hw => ?_, fun r l _ => ?_⟩
  · simp only [h, Option.some.injEq] at hr hq
    subst hr hq
    revert hw r q
    decide +kernel
  · have hp : ∀ p : Port, (routerA.port p).link = .up ∧ (routerA.port p).fenced = false := by decide +kernel
    exact hp l.holder

/-- A tag in use, a free entry, and an origin at its quota. -/
theorem witness_AllocationFollowsTheThreeChecks :
    allocate busyA 0 0x41#8 = .tagInUse ∧ allocate busyA 0 0x42#8 = .entry 5 ∧
      allocate { busyA with settings := { busyA.settings with quota := busyA.settings.quota.set 0 1 } } 0 0x42#8 =
        .noEntry := by decide +kernel

/-- A reply with the last reply credit; and neither reply nor request, with one credit owed; and lanes with a head. -/
theorem witness_RepliesGoFirst :
    ((routerA.modifyPort 0 fun r => { r with replyQueue := [⟨⟨0, 0, []⟩, false⟩], credits := ⟨0, 1⟩ }).port
        0).replyQueue = [⟨⟨0, 0, []⟩, false⟩] ∧
      0 < ((routerA.modifyPort 0 fun r => { r with replyQueue := [⟨⟨0, 0, []⟩, false⟩], credits := ⟨0, 1⟩ }).port
        0).credits.rep ∧
      (routerA.port 0).replyQueue = [] ∧ (∀ i, eligible routerA 0 i = false) ∧
      (∀ i, eligible (routerA.modifyPort 0 fun r => { r with owed := ⟨0, 1⟩ }) 0 i = false) ∧
      0 < ((routerA.modifyPort 0 fun r => { r with owed := ⟨0, 1⟩ }).port 0).owed.rep ∧
      ((withHead blank .unexamined).port 1).reqLane = blank :: [] ∧
      ((routerA.modifyPort 1 fun q => { q with repLane := [⟨1, 0, []⟩] }).port 1).repLane = ⟨1, 0, []⟩ :: [] := by
  decide +kernel

/-- What each block may take, in a state for each: nothing at rest; a new head before all else; a marked head; a held reply; a
directive at the M arbiter; a granted request, a reply and a CREDIT. -/
theorem witness_InternalActionsAreThoseThatMayBeTaken :
    internalActions routerA = [] ∧ internalActions (withHead fetchHead .unexamined) = [.examine 1] ∧
      internalActions ((withHead fetchHead (.offered toMemory)).modifyPort 1 fun r => { r with recheck := true }) =
        [.reexamine 1] ∧
      internalActions { routerA with mgmt := .replyHeld 2 ⟨⟨0, 0, []⟩, false⟩ } = [.placeReply] ∧
      internalActions (withHead unfenceHead (.offered ⟨.management, 1#16⟩)) = [.grantM] ∧
      internalActions (withHead fetchHead (.offered toMemory)) = [.choose 5] ∧
      internalActions (routerA.modifyPort 0 fun r => { r with owed := ⟨1, 0⟩ }) = [.choose 0] ∧
      internalActions (routerA.modifyPort 0 fun r =>
        { r with replyQueue := [⟨⟨0, 0, []⟩, false⟩], credits := ⟨0, 0⟩ }) = [] := by decide +kernel

/-- The first eligible input after the pointer is L1; its head is a posted one, a tracked one, one whose tag is in use; and
an alert note of input M. -/
theorem witness_RequestsAreGrantedInTurn :
    cyclicAfter (routerA.port 5).arbPointer = [0] ++ 1 :: [2, 3, 4, 5, 6] ∧ (routerA.port 5).replyQueue = [] ∧
      0 < (routerA.port 5).credits.req ∧
      (∀ h ∈ [fetchHead, { fetchHead with kind := .store }], ∀ j ∈ ([0] : List (Fin 7)),
        eligible (withHead h (.offered toMemory)) 5 j = false) ∧
      eligible (withHead fetchHead (.offered toMemory)) 5 1 = true ∧
      allocate (withHead fetchHead (.offered toMemory)) 1 0x2A#8 = .entry 0 ∧
      eligible { (withHead { fetchHead with tag := 0x44#8 } (.offered toMemory)) with track := busyA.track } 5 1 = true ∧
      allocate { (withHead { fetchHead with tag := 0x44#8 } (.offered toMemory)) with track := busyA.track } 1 0x44#8 =
        .tagInUse ∧
      (trackKind fetchHead.kind toMemory.route).isSome = true ∧
      cyclicAfter (routerA.port 5).arbPointer = [0, 1, 2, 3, 4, 5] ++ 6 :: [] ∧
      (∀ j ∈ ([2, 3, 4, 5, 6] : List (Fin 7)), eligible (withHead fetchHead (.offered toMemory)) 5 j = false) := by
  decide +kernel

/-- Heads OFFERED at L1 and L3 for one output: the arbiter's own choice grants L1, the first after its pointer, and the choice
among L3 alone grants L3 (R79, R80). -/
theorem test_choice_among_the_remaining_inputs :
    let s := (withHead fetchHead (.offered toMemory)).modifyPort 3 fun q =>
      { q with reqLane := [fetchHead], head := .offered toMemory }
    ((chooseNext 5 s).port 5).arbPointer = 1 ∧ ((chooseNext 5 s).port 3).reqLane = [fetchHead] ∧
      ((tryInputs 5 ([] ++ 3 :: []) s).port 5).arbPointer = 3 ∧
      ((tryInputs 5 ([] ++ 3 :: []) s).port 1).reqLane = [fetchHead] := by decide +kernel

/-- L1 is refused TAG_IN_USE, and the same choice goes on to L2, whose head is granted with the lowest FREE entry (R80). -/
theorem test_choice_goes_on_after_tag_in_use :
    let s := { (withHead { fetchHead with tag := 0x44#8 } (.offered toMemory)).modifyPort 2 (fun q =>
      { q with reqLane := [fetchHead], head := .offered toMemory }) with track := busyA.track }
    ((chooseNext 5 s).port 1).replyQueue = [⟨⟨0x44#8, 0x14#8, []⟩, false⟩] ∧ ((chooseNext 5 s).port 1).reqLane = [] ∧
      ((chooseNext 5 s).port 5).arbPointer = 2 ∧ ((chooseNext 5 s).port 5).credits.req = 11 ∧
      (chooseNext 5 s).track[5] = some ⟨.active false, 2, 0x2A#8, 5, .fetch 0, 1#16, 4000⟩ := by decide +kernel

/-- A REPLY_DUE entry, and each kind of waiting claimant. -/
theorem witness_FreedSlotsAreGivenOutInOrder :
    busyA.track[3] = some ⟨.replyDue .timeout, 1, 0x44#8, 5, .fetch 0, 1#16, 0⟩ ∧
      (∀ i : Fin 64, owesReplyTo 0 busyA.track[i] = false) ∧
      (routerA.port 0).queuePointer = 7 ∧ cyclicAfter (7 : Fin 8) = [0, 1, 2, 3] ++ 4 :: [5, 6, 7] ∧
      claimantWaits 1 (busyA.modifyPort 4 fun r => { r with repLane := [⟨4, 0, []⟩] }) 4 = true ∧
      claimantWaits 1 (withHead blank (.answered none ⟨0, 0, []⟩)) 6 = true ∧
      claimantWaits 1 { routerA with mgmt := .replyHeld 1 ⟨⟨0, 0, []⟩, false⟩ } 7 = true ∧
      ∀ c, claimantWaits 0 routerA c = false := by decide +kernel

/-- An IDLE unit with a candidate at L1, the second in turn, and a unit that holds a reply with room for it. -/
theorem witness_ManagementUnitTakesOneDirective :
    (withHead (directiveHead 3#8 0#8) (.offered ⟨.management, 1#16⟩)).mgmt = .idle ∧
      cyclicAfter (withHead (directiveHead 3#8 0#8) (.offered ⟨.management, 1#16⟩)).mPointer = [0] ++ 1 :: [2, 3, 4, 5] ∧
      ((withHead (directiveHead 3#8 0#8) (.offered ⟨.management, 1#16⟩)).port 0).head = .empty ∧
      ({ routerA with mgmt := .replyHeld 1 ⟨⟨0, 0, []⟩, false⟩ } : State).mgmt = .replyHeld 1 ⟨⟨0, 0, []⟩, false⟩ := by
  decide +kernel

/-- A list with room and a full one under either policy. -/
theorem witness_RaisedFaultsAreNumberedAndKept :
    routerA.faultList.records.length < 32 ∧ 32 ≤ listOf115.records.length ∧ listOf115.policy = .keepNewest ∧
      ({ listOf115 with policy := .keepOldest } : FaultList).policy = .keepOldest := by decide +kernel

/-- A list with room and a full one that keeps the newest; an armed flag with the alert node behind an UP port, behind none,
and with an alert that waits. -/
theorem witness_KeptRecordsRaiseAlerts :
    routerA.faultList.records.length < 32 ∧ ¬ listOf115.records.length < 32 ∧ listOf115.policy = .keepNewest ∧
      routerA.alert.armed = false ∧ routerA.nodeTable[5] = .port 4 ∧
      (routerA.port 4).link = .up ∧ (∀ p, routerA.nodeTable[7] = .port p → (routerA.port p).link ≠ .up) ∧
      ({ routerA with alert := ⟨true, true, none⟩ } : State).alert.pending = true ∧
      ({ routerA with settings := { routerA.settings with alertNode := some 5 } } : State).settings.alertNode = some 5 := by
  decide +kernel

/-- Every command is executed in some state that accepts it, with argument words of the count it takes. -/
theorem witness_Accepted :
    ∀ c : Command, Accepted c (directive c (List.replicate c.argCount 0#32))
      (executing c (List.replicate c.argCount 0#32)) :=
  fun c => accepted_executing c _ (by simp)

/-- One argument word past each end of its range, in directives that are accepted. -/
theorem witness_BadArgumentsChangeNothing :
    Accepted .setQuota (directive .setQuota [5#32, 65#32]) (executing .setQuota [5#32, 65#32]) ∧
      (directive .setQuota [5#32, 65#32]).args.length = Command.setQuota.argCount ∧ 64 < (65#32).toNat ∧
    Accepted .tableWrite (directive .tableWrite [47#32, 0x00400000#32, 0#32, 0#32, 0#32])
      (executing .tableWrite [47#32, 0x00400000#32, 0#32, 0#32, 0#32]) ∧
      (0x00400000#32).extractLsb' 22 2 ≠ 0#2 ∧
    Accepted .faultPop (directive .faultPop [33#32, 0#32]) (executing .faultPop [33#32, 0#32]) ∧ 32 < (33#32).toNat ∧
    Accepted .alertSet (directive .alertSet [3#32]) (executing .alertSet [3#32]) ∧ (3#32).toNat = routerA.node.val ∧
      (32#32 : Word) ≠ 0xFFFFFFFF#32 ∧ 31 < (32#32).toNat :=
  ⟨accepted_executing _ _ rfl, rfl, by decide, accepted_executing _ _ rfl, by decide, accepted_executing _ _ rfl, by decide,
   accepted_executing _ _ rfl, by decide, by decide, by decide⟩

theorem witness_IdentifyAndPortStatusReport :
    Accepted .identify (directive .identify []) (executing .identify []) ∧
    Accepted .portStatus (directive .portStatus [5#32]) (executing .portStatus [5#32]) ∧ (5#32).toNat = (5 : Port).val :=
  ⟨accepted_executing _ _ rfl, accepted_executing _ _ rfl, by decide⟩

/-- Ports in each link state, fenced and not. -/
theorem witness_PortDirectivesActAtOnce :
    Accepted .portEnable (directive .portEnable [1#32]) ((executing .portEnable [1#32]).modifyPort 1 silentOff) ∧
      (((executing .portEnable [1#32]).modifyPort 1 silentOff).port 1).link = .off ∧
      (((executing .portEnable [1#32]).modifyPort 1 silentOff).port 1).tx = none ∧
    Accepted .portEnable (directive .portEnable [1#32]) (executing .portEnable [1#32]) ∧
      ((executing .portEnable [1#32]).port 1).link = .up ∧
    Accepted .fence (directive .fence [1#32]) (executing .fence [1#32]) ∧
      ((executing .fence [1#32]).port 1).fenced = false ∧
    Accepted .fence (directive .fence [1#32])
      ((executing .fence [1#32]).modifyPort 1 fun r => { r with fenced := true }) ∧
      (((executing .fence [1#32]).modifyPort 1 fun r => { r with fenced := true }).port 1).fenced = true ∧
    Accepted .unfence (directive .unfence [1#32]) (executing .unfence [1#32]) :=
  ⟨⟨⟨rfl, rfl, rfl⟩, .inr (.inl rfl), by decide⟩, rfl, rfl, accepted_executing _ _ rfl, rfl, accepted_executing _ _ rfl, rfl,
   ⟨⟨rfl, rfl, rfl⟩, .inr (.inl rfl), by decide⟩, rfl, accepted_executing _ _ rfl⟩

/-- The last port, window, entry and node number, and both ends of the count of FAULT_READ, in directives that are accepted,
and the values read there. -/
theorem witness_TablesAreReadAsTheyStand :
    Accepted .tableRead (directive .tableRead [1#32, 47#32]) (executing .tableRead [1#32, 47#32]) ∧
      (47#32).toNat = (47 : Fin 48).val ∧
    Accepted .trackRead (directive .trackRead [63#32]) (executing .trackRead [63#32]) ∧
      (63#32).toNat = (63 : Fin 64).val ∧ (executing .trackRead [63#32]).track[63] = none ∧
      (∀ i : Fin 64, i < 5 → busyA.track[i] ≠ none) ∧ (4 : Node).val = 8 * (0 : Fin 4).val + (4 : Fin 8).val ∧
      (31 : Node).val = 8 * (3 : Fin 4).val + (7 : Fin 8).val ∧
    Accepted .lockRead (directive .lockRead []) (executing .lockRead []) ∧
    Accepted .nodeRead (directive .nodeRead []) (executing .nodeRead []) ∧
    Accepted .faultRead (directive .faultRead [4#32]) (executing .faultRead [4#32]) ∧ 1 ≤ (1#32).toNat ∧
      (4#32).toNat ≤ 4 :=
  ⟨accepted_executing _ _ rfl, by decide, accepted_executing _ _ rfl, by decide,
   by decide +kernel, by decide +kernel, by decide, by decide, accepted_executing _ _ rfl, accepted_executing _ _ rfl,
   accepted_executing _ _ rfl, by decide, by decide⟩

/-- The ends of the value ranges of the settings. -/
theorem witness_SettingsAreSetAtOnce :
    Accepted .setQuota (directive .setQuota [5#32, 64#32]) (executing .setQuota [5#32, 64#32]) ∧ 1 ≤ (1#32).toNat ∧
      (64#32).toNat ≤ 64 ∧
    Accepted .setDeadline (directive .setDeadline [0#32, 10#32]) (executing .setDeadline [0#32, 10#32]) ∧
      10 ≤ (10#32).toNat ∧
    Accepted .setTombstone (directive .setTombstone [65535#32]) (executing .setTombstone [65535#32]) ∧
      (65535#32).toNat ≤ 65535 :=
  ⟨accepted_executing _ _ rfl, by decide, by decide, accepted_executing _ _ rfl, by decide, accepted_executing _ _ rfl,
   by decide⟩

/-- Each deferred directive with an origin that is UP, and with one that is not. -/
theorem witness_DeferredDirectivesWaitForTheirReply :
    Accepted .portDisable (directive .portDisable [5#32]) (executing .portDisable [5#32]) ∧
    Accepted .portRestart (directive .portRestart [0#32]) (executing .portRestart [0#32]) ∧
    Accepted .resetRouter (directive .resetRouter []) (executing .resetRouter []) ∧
    Accepted .setNode (directive .setNode [31#32]) (executing .setNode [31#32]) ∧
    ((executing .setNode [31#32]).port 2).link = .up ∧
    Accepted .setNode (directive .setNode [31#32]) ((executing .setNode [31#32]).modifyPort 2 silentOff) ∧
    (((executing .setNode [31#32]).modifyPort 2 silentOff).port 2).link ≠ .up :=
  ⟨accepted_executing _ _ rfl, accepted_executing _ _ rfl, accepted_executing _ _ rfl, accepted_executing _ _ rfl, rfl,
   ⟨⟨rfl, rfl, rfl⟩, .inr (.inl rfl), by decide⟩, by decide +kernel⟩

/-- Entry words whose must-be-0 fields are 0, for the last entry. -/
theorem witness_StagingDirectivesEditTheStagingBank :
    Accepted .tableWrite (directive .tableWrite [47#32, 0x98031705#32, 0#32, 0#32, 0#32])
      (executing .tableWrite [47#32, 0x98031705#32, 0#32, 0#32, 0#32]) ∧
      (47#32).toNat = (47 : Fin 48).val ∧ (0x98031705#32).extractLsb' 22 2 = 0#2 ∧
      (0x98031705#32).extractLsb' 13 3 = 0#3 ∧ (0x98031705#32).extractLsb' 3 5 = 0#5 ∧
      encodable 0x98031705#32 = true :=
  ⟨accepted_executing _ _ rfl, by decide, by decide, by decide, by decide, by decide⟩

/-- A Staging entry that fails validation, one that differs from the Active entry of a locked window, and neither. -/
theorem witness_CommitValidatesThenCopies :
    Accepted .commit (directive .commit []) (executing .commit []) ∧
      entryPasses (entryOfWords 0x8C010105#32 0#32 0x50000800#32 0#32) = false ∧
      (entryOfWords 0x8C010105#32 0#32 0x50000800#32 0#32).valid = true ∧ busyA.locks[0] = some ⟨0, 0, 0⟩ ∧
      WindowEntry.zero ≠ memoryBank[0] ∧
      (∀ i : Fin 48, memoryBank[i].valid = true → entryPasses memoryBank[i] = true) :=
  ⟨accepted_executing _ _ rfl, by decide +kernel⟩

/-- A held and a FREE record, a node that is not the own, and ports that are not HALTED. -/
theorem witness_LockNodeAndManagerDirectives :
    Accepted .breakLock (directive .breakLock [3#32]) (executing .breakLock [3#32]) ∧
      (executing .breakLock [3#32]).locks[3] = none ∧ busyA.locks[0] = some ⟨0, 0, 0⟩ ∧
    Accepted .nodeSet (directive .nodeSet [31#32, 0xFFFFFFFF#32]) (executing .nodeSet [31#32, 0xFFFFFFFF#32]) ∧
      (31 : Node) ≠ routerA.node ∧ routerA.nodeTable[31] = .unreachable ∧ routerA.nodeTable[5] ≠ .unreachable ∧
    Accepted .setManager (directive .setManager [5#32]) (executing .setManager [5#32]) ∧
      (routerA.port 5).link ≠ .halted :=
  ⟨accepted_executing _ _ rfl, by decide +kernel, by decide +kernel, accepted_executing _ _ rfl, by decide +kernel,
   by decide +kernel, by decide +kernel, accepted_executing _ _ rfl, by decide +kernel⟩

/-- A pop of the oldest record and one of 32, both policies, and an alert node that is new and one that is held. -/
theorem witness_FaultAndAlertDirectives :
    Accepted .faultPop (directive .faultPop [32#32, 101#32])
      { executing .faultPop [32#32, 101#32] with faultList := listOf115, fltLow := true } ∧
      (listOf115.records.head?.map FaultRecord.seq) = some 101#16 ∧
    Accepted .faultPolicy (directive .faultPolicy [1#32]) (executing .faultPolicy [1#32]) ∧
    Accepted .alertSet (directive .alertSet [5#32])
      { executing .alertSet [5#32] with settings := { routerA.settings with alertNode := some 5 } } ∧
      (5 : Node) ≠ routerA.node ∧
    Accepted .alertArm (directive .alertArm []) { executing .alertArm [] with faultList := listOf115 } ∧
      routerA.faultList.records = [] :=
  ⟨accepted_executing .faultPop [32#32, 101#32] rfl, by decide +kernel, accepted_executing _ _ rfl,
   accepted_executing .alertSet [5#32] rfl, by decide +kernel, accepted_executing .alertArm [] rfl, rfl⟩

/-- A parcel of the longest payload fits the format. -/
theorem witness_SentParcelsAreReadBack :
    Parcel.wf (.request ⟨12, 8⟩ { blank with kind := .store, length := 16#5, payload := List.replicate 16 7#32 }) = true ∧
      Parcel.wf (.reply ⟨0, 0⟩ ⟨255#8, 0xFF#8, List.replicate 16 7#32⟩) = true ∧
      Parcel.wf (.hello 31 12#8 8#8 true) = true := by decide +kernel

/-- A FETCH whose fill is not 0 is read as if it were 0 (R28): byte 3 bits 7:5, and bytes 10 to 15. -/
theorem test_fill_is_not_examined :
    let body := [0x10#8, 0x18#8, 0x2A#8, 0xE4#8, 0#8, 0#8, 0x40#8, 0#8, 0x01#8, 0#8, 1#8, 2#8, 3#8, 4#8, 5#8, 6#8]
    parse (body ++ bytesOfWord (crc body)) = .parcel (.request ⟨1#4, 8#4⟩ fetchHead) := by decide +kernel

/-- A size of 20 + 4k with k of 17 is damaged whatever the check, and a code that the table lacks is an unknown kind (R25,
R27). -/
theorem test_size_and_kind_code :
    let long := 0x30#8 :: List.replicate 83 0#8
    let odd := 0x22#8 :: List.replicate 15 0#8
    parse (long ++ bytesOfWord (crc long)) = .damaged ∧ parse (odd ++ bytesOfWord (crc odd)) = .unknownKind := by
  decide +kernel

theorem witness_WindowEntriesRoundTrip : encodable 0x98031705#32 = true ∧ encodable 0x98031708#32 = false := by
  decide +kernel

end Sys2Proof.Tests
end

section
-- Theorems are checked one after another: a thread for each takes a stack of its own, and there is no room for them all.
set_option Elab.async false

section
/-! SUPPORT. What can happen to one port record, said once: the moves that internal actions make, and the moves that events
make. Each law of the port records is then kept move by move. -/

namespace Sys2Proof.Machine

open Sys2Proof

/-! ### Port records after the link controller's steps -/

/-- A port record that enters TRAINING, with node number `n` in force (R3, R4; log entry 14). -/
def PortRec.trained (n : Node) (r : PortRec) : PortRec :=
  { r with link := .training, attempts := 0, heard := false, seen := false, helloTimer := some 10,
           attemptTimer := some 200, tx := some (r.tx.getD ⟨.hello n 12#8 8#8 false, false⟩),
           helloDue := if r.tx.isNone then r.helloDue else r.helloDue + 1 }

/-- A port record that enters OFF (R8; log entry 6). -/
def PortRec.turnedOff (r : PortRec) : PortRec :=
  { r with link := .off, helloTimer := none, attemptTimer := none, tx := none, helloDue := 0, peerNode := none,
           offers := none }

/-- The record of a port that leaves UP (R21, R3, R8). -/
def PortRec.lost (n : Node) (cause : LossCause) (r : PortRec) : PortRec :=
  if cause = .disabled then (lossRecord cause r).turnedOff else (lossRecord cause r).trained n

/-- The record of a port after the warm reset (R2, R159). -/
def PortRec.warmed (n : Node) (r : PortRec) : PortRec :=
  if r.link = .off then warmPort r else (warmPort r).trained n

/-- The record of a port that has accepted a HELLO in TRAINING and stays there (R5). -/
def PortRec.hearing (node : Node) (offers : LanePair) (r : PortRec) : PortRec :=
  { r with heard := true, peerNode := some node, offers := some offers }

/-- The record of a port that enters UP with a HELLO (R6). -/
def PortRec.entering (n node : Node) (offers : LanePair) (r : PortRec) : PortRec :=
  { r with link := .up, heard := true, seen := true, peerNode := some node, offers := some offers, helloTimer := none,
           attemptTimer := none, credits := offers, owed := ⟨0, 0⟩,
           tx := some (r.tx.getD ⟨.hello n 12#8 8#8 true, false⟩), helloDue := if r.tx.isNone then 0 else 1 }

theorem enterTraining_eq (p : Port) (s : State) : enterTraining p s = s.modifyPort p (PortRec.trained s.node) := by
  unfold enterTraining sendHello beginAttempt
  rw [State.modifyPort_modifyPort, State.modifyPort_modifyPort]
  apply State.modifyPort_congr
  dsimp only
  cases h : (s.port p).tx <;>
    simp [PortRec.trained, helloNow, h, Config.helloPeriod, Config.attemptPeriod, Config.requestLaneSlots,
      Config.replyLaneSlots]

theorem enterOff_eq (p : Port) (s : State) : enterOff p s = s.modifyPort p PortRec.turnedOff := rfl

theorem leaveUp_eq (x : Port) (cause : LossCause) (s : State) :
    leaveUp x cause s = s.modifyPort x (PortRec.lost s.node cause) := by
  unfold leaveUp
  dsimp only
  by_cases h : cause = .disabled
  · rw [if_pos h, enterOff_eq, State.modifyPort_modifyPort]
    exact State.modifyPort_congr (by simp [PortRec.lost, h])
  · rw [if_neg h, enterTraining_eq, State.modifyPort_modifyPort]
    exact State.modifyPort_congr (by simp [PortRec.lost, h])

theorem warmResetPort_eq (s : State) (p : Port) : warmResetPort s p = s.modifyPort p (PortRec.warmed s.node) := by
  unfold warmResetPort
  dsimp only
  split
  · next h => exact State.modifyPort_congr (by simp [PortRec.warmed, h])
  · next h =>
    rw [enterTraining_eq, State.modifyPort_modifyPort]
    exact State.modifyPort_congr (by simp [PortRec.warmed, h])

/-- A HELLO that does not set the seen mark leaves the port in TRAINING (R5). -/
theorem acceptHello_unseen {p : Port} {node : Node} {offers : LanePair} {f : Bool} {s : State}
    (h : ((s.port p).seen || f) = false) :
    acceptHello p node offers f s = s.modifyPort p (PortRec.hearing node offers) := by
  obtain ⟨hs, hf⟩ : (s.port p).seen = false ∧ f = false := by simpa using h
  unfold acceptHello
  simp only [State.port_modifyPort_self, h, Bool.false_eq_true, if_false]
  exact State.modifyPort_congr (by simp [PortRec.hearing, hs, hf])

/-- With both marks set the port enters UP, and the route of a pending alert is checked (R6, R178). -/
theorem acceptHello_seen {p : Port} {node : Node} {offers : LanePair} {f : Bool} {s : State}
    (h : ((s.port p).seen || f) = true) :
    acceptHello p node offers f s = routeCheck (s.modifyPort p (PortRec.entering s.node node offers)) := by
  unfold acceptHello
  simp only [State.port_modifyPort_self, h, if_true]
  unfold enterUp sendHello
  rw [State.modifyPort_modifyPort, State.modifyPort_modifyPort]
  congr 1
  apply State.modifyPort_congr
  dsimp only
  cases ht : (s.port p).tx <;>
    simp [PortRec.entering, helloNow, ht, h, Config.requestLaneSlots, Config.replyLaneSlots]

/-! ### Moves of one port record -/

/-- A head that an examination or an arbiter may still act on: not EMPTY and not ANSWERED. -/
def HeadState.undecided (st : HeadState) : Prop := st = .unexamined ∨ st.waiting = true

/-- The head leaves its lane: the rest of the lane stays, one credit more is owed (R13, R17). -/
def PortRec.popped (rest : List Request) (r : PortRec) : PortRec :=
  { r with reqLane := rest, head := headAfter rest, recheck := false,
           owed := { r.owed with req := min (r.owed.req + 1) 12 } }

/-- The oldest reply has begun transmission, and `added` has joined the queue in its slot (R78, R84). -/
def PortRec.replySent (q : QueuedReply) (rest added : List QueuedReply) (ptr : Fin 8) (r : PortRec) : PortRec :=
  { r with tx := some ⟨.reply (owedCredits r) q.reply, q.tied⟩, owed := ⟨0, 0⟩, replyQueue := rest ++ added,
           queuePointer := ptr, credits := { r.credits with rep := r.credits.rep - 1 } }

/-- The moves that internal actions make on a port record. -/
inductive InternalMove (r : PortRec) : PortRec → Prop where
  /-- An examination sets the head's state (R66, R67). -/
  | examined (st : HeadState) : r.reqLane ≠ [] → r.head.undecided → st ≠ .empty →
      InternalMove r { r with head := st, recheck := false }
  /-- The stage of an empty lane is EMPTY (R65). -/
  | noHead : r.reqLane = [] → InternalMove r { r with head := .empty, recheck := false }
  /-- A re-examination finds nothing to do. -/
  | unmarked : InternalMove r { r with recheck := false }
  /-- A waiting head is marked for examination (R66). -/
  | marked : r.head.waiting = true → InternalMove r { r with recheck := true }
  /-- A posted head is counted by the fence (R24). -/
  | counted (n : Nat) : r.reqLane ≠ [] → InternalMove r { r with fencedDrops := n }
  /-- The head leaves its lane, with no answer waiting (R13). -/
  | popped (h : Request) (rest : List Request) : r.reqLane = h :: rest → (∀ res a, r.head ≠ .answered res a) →
      InternalMove r (r.popped rest)
  /-- A reply leaves its lane (R14). -/
  | replyPopped (q : Reply) (rest : List Reply) : r.repLane = q :: rest →
      InternalMove r { r with repLane := rest, owed := { r.owed with rep := min (r.owed.rep + 1) 8 } }
  /-- A reply joins the Reply Queue (R83, R84). -/
  | admitted (q : QueuedReply) (ptr : Fin 8) : r.link = .up → r.replyQueue.length < 8 →
      InternalMove r { r with replyQueue := r.replyQueue ++ [q], queuePointer := ptr }
  /-- The oldest reply begins transmission, and its slot is given to at most one other (R78, R84). -/
  | replySent (q : QueuedReply) (rest added : List QueuedReply) (ptr : Fin 8) : transmitterReady r = true →
      0 < r.credits.rep → r.replyQueue = q :: rest → added.length ≤ 1 →
      InternalMove r (r.replySent q rest added ptr)
  /-- The oldest reply begins transmission, and its slot is given to the answer of the head (R75, R84). -/
  | answerSent (q : QueuedReply) (rest : List QueuedReply) (res : Option Resolution) (a : Reply) (h : Request)
      (lane : List Request) : transmitterReady r = true → 0 < r.credits.rep → r.replyQueue = q :: rest →
      r.head = .answered res a → r.reqLane = h :: lane →
      InternalMove r ((r.replySent q rest [⟨a, false⟩] 6).popped lane)
  /-- A request or a CREDIT begins transmission (R17, R77, R79). -/
  | begun (t : Transmission) (k : Nat) (ptr : Fin 7) : transmitterReady r = true →
      InternalMove r { r with tx := some t, owed := ⟨0, 0⟩, credits := { r.credits with req := r.credits.req - k },
                              arbPointer := ptr }

/-- The moves that the events themselves make on a port record, beside those of `InternalMove`. -/
inductive EventMove (r : PortRec) : PortRec → Prop where
  /-- Credit returns are taken in UP (R16). -/
  | credited (c : Credits) (o : LanePair) : r.link = .up → r.offers = some o →
      EventMove r
        { r with credits := ⟨min (r.credits.req + c.req.toNat) o.req, min (r.credits.rep + c.rep.toNat) o.rep⟩ }
  /-- A request is stored in UP (R11, R65). -/
  | requestStored (q : Request) : r.link = .up → r.reqLane.length < 12 →
      EventMove r { r with reqLane := r.reqLane ++ [q], head := if r.reqLane.isEmpty then .unexamined else r.head }
  /-- A reply is stored in UP (R11). -/
  | replyStored (q : Reply) : r.link = .up → r.repLane.length < 8 → EventMove r { r with repLane := r.repLane ++ [q] }
  /-- The port leaves UP (R21). -/
  | lost (n : Node) (cause : LossCause) : EventMove r (r.lost n cause)
  /-- A port that is not UP enters TRAINING (R9). -/
  | trained (n : Node) : r.link ≠ .up → EventMove r (r.trained n)
  /-- A port that is not UP enters OFF (R9). -/
  | turnedOff : r.link ≠ .up → EventMove r r.turnedOff
  /-- The warm reset (R159). -/
  | warmed (n : Node) : EventMove r (r.warmed n)
  /-- A HELLO is accepted and the port stays in TRAINING (R5). -/
  | hearing (node : Node) (a b : Byte) : r.link = .training → offersGood a b = true →
      EventMove r (r.hearing node ⟨a.toNat, b.toNat⟩)
  /-- A HELLO is accepted and the port enters UP (R6). -/
  | entering (n node : Node) (a b : Byte) : r.link = .training → offersGood a b = true →
      EventMove r (r.entering n node ⟨a.toNat, b.toNat⟩)
  /-- The HELLO timer restarts and a HELLO is sent, or waits (R3). -/
  | helloSent (t : Option Transmission) (k : Nat) : r.link = .training →
      EventMove r { r with helloTimer := some 10, tx := t, helloDue := k }
  /-- A new attempt begins (R7). -/
  | attempted (k : Nat) : r.link = .training →
      EventMove r { r with attempts := k, heard := false, seen := false, attemptTimer := some 200 }
  /-- The port enters HALTED (R7, R8). -/
  | halted (k : Nat) : r.link = .training →
      EventMove r { r with link := .halted, attempts := k, helloTimer := none, attemptTimer := none, tx := none,
                           helloDue := 0 }
  /-- The parcel in transmission has left (R19). -/
  | sent : EventMove r { r with tx := none }
  /-- The next HELLO that waits is begun (R3). -/
  | helloBegun (t : Transmission) (k : Nat) : r.helloDue = k + 1 → EventMove r { r with tx := some t, helloDue := k }
  /-- The port timers run (R186). -/
  | ticked : EventMove r (tickPort r)
  /-- The fenced flag is set or cleared (R23). -/
  | fenced (b : Bool) : EventMove r { r with fenced := b }

/-- A move of either kind. -/
def PortMove (r q : PortRec) : Prop := InternalMove r q ∨ EventMove r q

/-! ### The laws of port records are kept by every move -/

/-- The silence law for one port record, with RST# low or high (R3, R6, R8, R186). -/
def PortRec.silent (low : Bool) (r : PortRec) : Prop :=
  (r.link = .off ∨ r.link = .halted → r.tx = none ∧ r.helloDue = 0) ∧
  (r.link ≠ .training → r.helloTimer = none ∧ r.attemptTimer = none) ∧
  (r.link = .training → low = false → r.helloTimer ≠ none ∧ r.attemptTimer ≠ none)

theorem silenceLaw_iff (s : State) : SilenceLaw s ↔ ∀ p, (s.port p).silent s.resetLow := Iff.rfl

theorem transmitterReady_iff (r : PortRec) :
    transmitterReady r = true ↔ r.link = .up ∧ r.tx = none ∧ r.helloDue = 0 := by
  simp [transmitterReady, and_assoc]

theorem headAfter_eq_empty_iff (rest : List Request) : headAfter rest = .empty ↔ rest = [] := by
  cases rest <;> simp [headAfter]

theorem offersGood_iff (a b : Byte) :
    offersGood a b = true ↔ 1 ≤ a.toNat ∧ a.toNat ≤ 12 ∧ 1 ≤ b.toNat ∧ b.toNat ≤ 8 := by
  simp only [offersGood, Bool.and_eq_true, decide_eq_true_eq, and_assoc]
  exact Iff.rfl

theorem withinCapacity_of_internalMove {r q : PortRec} (m : InternalMove r q) (h : r.withinCapacity) :
    q.withinCapacity := by
  obtain ⟨h1, h2, h3, h4, h5⟩ := h
  cases m with
  | popped _ rest hl _ =>
    simp only [hl, List.length_cons] at h1
    exact ⟨by simp only [PortRec.popped]; omega, h2, h3, Nat.min_le_right _ _, h5⟩
  | replyPopped _ rest hl =>
    simp only [hl, List.length_cons] at h2
    exact ⟨h1, by dsimp only; omega, h3, h4, Nat.min_le_right _ _⟩
  | admitted _ _ _ hq => exact ⟨h1, h2, by simpa using hq, h4, h5⟩
  | replySent _ rest added _ _ _ hq ha =>
    simp only [hq, List.length_cons] at h3
    exact ⟨h1, h2, by simp only [PortRec.replySent, List.length_append]; omega, by simp [PortRec.replySent],
      by simp [PortRec.replySent]⟩
  | answerSent _ rest _ _ _ lane _ _ hq _ hl =>
    simp only [hq, List.length_cons] at h3
    simp only [hl, List.length_cons] at h1
    exact ⟨by simp only [PortRec.popped]; omega, h2,
      by simp only [PortRec.popped, PortRec.replySent, List.length_append, List.length_singleton]; omega,
      Nat.min_le_right _ _, by simp [PortRec.popped, PortRec.replySent]⟩
  | begun => exact ⟨h1, h2, h3, by simp, by simp⟩
  | _ => exact ⟨h1, h2, h3, h4, h5⟩

theorem withinCapacity_trained {r : PortRec} (n : Node) (h : r.withinCapacity) : (r.trained n).withinCapacity := h

theorem withinCapacity_lossRecord (cause : LossCause) (r : PortRec) : (lossRecord cause r).withinCapacity := by
  simp [PortRec.withinCapacity, lossRecord]

theorem withinCapacity_warmPort (r : PortRec) : (warmPort r).withinCapacity := by
  simp [PortRec.withinCapacity, warmPort]

theorem withinCapacity_of_eventMove {r q : PortRec} (m : EventMove r q) (h : r.withinCapacity) : q.withinCapacity := by
  obtain ⟨h1, h2, h3, h4, h5⟩ := id h
  cases m with
  | requestStored _ _ hl => exact ⟨by simpa using hl, h2, h3, h4, h5⟩
  | replyStored _ _ hl => exact ⟨h1, by simpa using hl, h3, h4, h5⟩
  | lost n cause =>
    unfold PortRec.lost
    split
    · exact withinCapacity_lossRecord cause r
    · exact withinCapacity_trained n (withinCapacity_lossRecord cause r)
  | warmed n =>
    unfold PortRec.warmed
    split
    · exact withinCapacity_warmPort r
    · exact withinCapacity_trained n (withinCapacity_warmPort r)
  | entering => exact ⟨h1, h2, h3, by simp [PortRec.entering], by simp [PortRec.entering]⟩
  | _ => exact h

theorem linkGood_of_internalMove {r q : PortRec} (m : InternalMove r q) (h : r.linkGood) : q.linkGood := by
  obtain ⟨h1, h2, h3, h4, h5, h6⟩ := id h
  cases m with
  | examined st hl _ hs => exact ⟨h1, h2, h3, h4, h5, by simp [hl, hs]⟩
  | noHead hl => exact ⟨h1, h2, h3, h4, h5, by simp [hl]⟩
  | popped _ rest hl _ =>
    exact ⟨fun hu => absurd (h1 hu).1 (by simp [hl]), h2, h3, h4, h5, headAfter_eq_empty_iff rest⟩
  | replyPopped _ rest hl => exact ⟨fun hu => absurd (h1 hu).2.1 (by simp [hl]), h2, h3, h4, h5, h6⟩
  | admitted _ _ hu _ => exact ⟨fun hn => absurd hu hn, h2, h3, h4, h5, h6⟩
  | replySent _ rest added _ ht _ hq ha =>
    have hu := ((transmitterReady_iff r).1 ht).1
    exact ⟨fun hn => absurd hu hn, h2, h3, h4, (Nat.sub_le _ _).trans h5, h6⟩
  | answerSent _ rest _ _ _ lane ht _ hq _ hl =>
    have hu := ((transmitterReady_iff r).1 ht).1
    exact ⟨fun hn => absurd hu hn, h2, h3, h4, (Nat.sub_le _ _).trans h5, headAfter_eq_empty_iff lane⟩
  | begun t k _ ht =>
    have hu := ((transmitterReady_iff r).1 ht).1
    exact ⟨fun hn => absurd hu hn, h2, h3, (Nat.sub_le _ _).trans h4, h5, h6⟩
  | _ => exact h

theorem linkGood_lossRecord_turnedOff (cause : LossCause) (r : PortRec) : (lossRecord cause r).turnedOff.linkGood := by
  simp [PortRec.linkGood, lossRecord, PortRec.turnedOff]

theorem linkGood_lossRecord_trained (n : Node) (cause : LossCause) (r : PortRec) :
    ((lossRecord cause r).trained n).linkGood := by
  simp [PortRec.linkGood, lossRecord, PortRec.trained]

theorem linkGood_warmed (n : Node) (r : PortRec) : (r.warmed n).linkGood := by
  unfold PortRec.warmed
  split
  · next h => simp [PortRec.linkGood, warmPort, h]
  · simp [PortRec.linkGood, warmPort, PortRec.trained]

theorem linkGood_of_eventMove {r q : PortRec} (m : EventMove r q) (h : r.linkGood) : q.linkGood := by
  obtain ⟨h1, h2, h3, h4, h5, h6⟩ := id h
  cases m with
  | credited c o hu ho =>
    exact ⟨fun hn => absurd hu hn, h2, h3, by simp [ho], by simp [ho], h6⟩
  | requestStored q hu hl =>
    refine ⟨fun hn => absurd hu hn, h2, h3, h4, h5, ?_⟩
    cases e : r.reqLane <;> simp [e] at h6 ⊢
    exact h6
  | replyStored q hu hl => exact ⟨fun hn => absurd hu hn, h2, h3, h4, h5, h6⟩
  | lost n cause =>
    unfold PortRec.lost
    split
    · exact linkGood_lossRecord_turnedOff cause r
    · exact linkGood_lossRecord_trained n cause r
  | trained n hn => exact ⟨fun _ => h1 hn, by simp [PortRec.trained], h3, h4, h5, h6⟩
  | turnedOff hn =>
    obtain ⟨hq, hp, hr, hc, ho⟩ := h1 hn
    exact ⟨fun _ => h1 hn, by simp [PortRec.turnedOff], by simp [PortRec.turnedOff], by simp [PortRec.turnedOff, hc],
      by simp [PortRec.turnedOff, hc], h6⟩
  | warmed n => exact linkGood_warmed n r
  | hearing node a b ht hg =>
    have hn : r.link ≠ .up := by simp [ht]
    obtain ⟨hq, hp, hr, hc, ho⟩ := h1 hn
    rw [offersGood_iff] at hg
    exact ⟨fun _ => h1 hn, by simp [PortRec.hearing], by simpa [PortRec.hearing] using hg,
      by simp [PortRec.hearing, hc], by simp [PortRec.hearing, hc], h6⟩
  | entering n node a b ht hg =>
    rw [offersGood_iff] at hg
    exact ⟨by simp [PortRec.entering], by simp [PortRec.entering], by simpa [PortRec.entering] using hg,
      by simp [PortRec.entering], by simp [PortRec.entering], h6⟩
  | halted k ht =>
    have hn : r.link ≠ .up := by simp [ht]
    exact ⟨fun _ => h1 hn, by simp, h3, h4, h5, h6⟩
  | _ => exact h

theorem silent_of_internalMove {low : Bool} {r q : PortRec} (m : InternalMove r q) (h : r.silent low) : q.silent low := by
  obtain ⟨h1, h2, h3⟩ := id h
  have up {q : PortRec} (ht : transmitterReady r = true) (hl : q.link = r.link)
      (hh : q.helloTimer = r.helloTimer) (ha : q.attemptTimer = r.attemptTimer) : q.silent low := by
    have hu := ((transmitterReady_iff r).1 ht).1
    refine ⟨?_, ?_, ?_⟩
    · simp [hl, hu]
    · rw [hl, hh, ha]; exact h2
    · simp [hl, hu]
  cases m with
  | replySent _ _ _ _ ht _ _ _ => exact up ht rfl rfl rfl
  | answerSent _ _ _ _ _ _ ht _ _ _ _ => exact up ht rfl rfl rfl
  | begun _ _ _ ht => exact up ht rfl rfl rfl
  | _ => exact h

theorem silent_trained (low : Bool) (n : Node) (r : PortRec) : (r.trained n).silent low := by
  simp [PortRec.silent, PortRec.trained]

theorem silent_turnedOff (low : Bool) (r : PortRec) : r.turnedOff.silent low := by
  simp [PortRec.silent, PortRec.turnedOff]

theorem silent_of_eventMove {low : Bool} {r q : PortRec} (m : EventMove r q) (h : r.silent low) : q.silent low := by
  obtain ⟨h1, h2, h3⟩ := id h
  cases m with
  | lost n cause =>
    unfold PortRec.lost
    split
    · exact silent_turnedOff low _
    · exact silent_trained low n _
  | trained n _ => exact silent_trained low n r
  | turnedOff _ => exact silent_turnedOff low r
  | warmed n =>
    unfold PortRec.warmed
    split
    · next e => simp [PortRec.silent, warmPort, e]
    · exact silent_trained low n _
  | entering => simp [PortRec.silent, PortRec.entering]
  | helloSent t k ht =>
    refine ⟨by simp [ht], by simp [ht], fun _ hl => ⟨by simp, (h3 ht hl).2⟩⟩
  | attempted k ht =>
    refine ⟨by simp [ht], by simp [ht], fun _ hl => ⟨(h3 ht hl).1, by simp⟩⟩
  | halted => simp [PortRec.silent]
  | sent => exact ⟨fun hl => ⟨rfl, (h1 hl).2⟩, h2, h3⟩
  | helloBegun t k hk => exact ⟨fun hl => absurd (h1 hl).2 (by simp [hk]), h2, h3⟩
  | ticked =>
    refine ⟨h1, ?_, ?_⟩
    · simpa [tickPort] using h2
    · simpa [tickPort] using h3
  | _ => exact h

end Sys2Proof.Machine
end

section
/-! SUPPORT. The internal actions as moves of the port records: each examination, placement and arbiter's choice takes every
port record through moves of `InternalMove`. -/

namespace Sys2Proof.Machine

open Sys2Proof

/-- Every port record goes through internal moves alone. -/
def MovesInternally (s t : State) : Prop := ∀ p : Port, Relation.ReflTransGen InternalMove (s.port p) (t.port p)

theorem MovesInternally.refl (s : State) : MovesInternally s s := fun _ => .refl

theorem MovesInternally.trans {s t u : State} (h : MovesInternally s t) (k : MovesInternally t u) :
    MovesInternally s u := fun p => (h p).trans (k p)

theorem movesInternally_of_ports {s t : State} (h : ∀ p, t.port p = s.port p) : MovesInternally s t :=
  fun p => by rw [h p]

theorem movesInternally_modifyPort {s : State} {p : Port} {f : PortRec → PortRec}
    (m : InternalMove (s.port p) (f (s.port p))) : MovesInternally s (s.modifyPort p f) := by
  intro q
  by_cases h : q = p
  · subst h
    rw [State.port_modifyPort_self]
    exact .single m
  · rw [State.port_modifyPort_of_ne s f h]

/-- A property of records that every internal move keeps is kept at every port. -/
theorem MovesInternally.keeps {P : PortRec → Prop} (keep : ∀ r q, InternalMove r q → P r → P q) {s t : State}
    (h : MovesInternally s t) {p : Port} (hp : P (s.port p)) : P (t.port p) := by
  have h := h p
  generalize t.port p = q at h
  induction h with
  | refl => exact hp
  | tail _ m ih => exact keep _ _ m ih

/-! ### Lanes and queues -/

theorem popHead_port_nil {p : Port} {s : State} (hl : (s.port p).reqLane = []) :
    (popHead p s).port p = { s.port p with head := .empty, recheck := false } := by
  simp [popHead, hl]

theorem movesInternally_popHead {p : Port} {s : State} (h : ∀ res a, (s.port p).head ≠ .answered res a) :
    MovesInternally s (popHead p s) := by
  intro q
  by_cases hq : q = p
  · subst hq
    cases hl : (s.port q).reqLane with
    | nil => rw [popHead_port_nil hl]; exact .single (.noHead hl)
    | cons r rest => rw [popHead_port_cons hl]; exact .single (.popped r rest hl h)
  · rw [popHead_port_of_ne hq]

theorem popReply_port_nil {p : Port} {s : State} (hl : (s.port p).repLane = []) : (popReply p s).port p = s.port p := by
  simp [popReply, hl]

theorem movesInternally_popReply (p : Port) (s : State) : MovesInternally s (popReply p s) := by
  intro q
  by_cases hq : q = p
  · subst hq
    cases hl : (s.port q).repLane with
    | nil => rw [popReply_port_nil hl]
    | cons r rest => rw [popReply_port_cons hl]; exact .single (.replyPopped r rest hl)
  · rw [popReply_port_of_ne hq]

theorem queueHasRoom_iff (s : State) (p : Port) :
    queueHasRoom s p = true ↔ (s.port p).link = .up ∧ (s.port p).replyQueue.length < 8 := by
  simp only [queueHasRoom, State.isUp, Bool.and_eq_true, beq_iff_eq, decide_eq_true_eq]
  exact Iff.rfl

theorem movesInternally_admitClaimant {p : Port} {s : State} (c : Fin 8) (q : QueuedReply)
    (h : queueHasRoom s p = true) : MovesInternally s (admitClaimant p c q s) := by
  obtain ⟨hu, hr⟩ := (queueHasRoom_iff s p).1 h
  exact movesInternally_modifyPort (.admitted q c hu hr)

theorem movesInternally_markHeads (which : Port → PortRec → Bool) (s : State) :
    MovesInternally s (markHeads which s) := by
  intro p
  rw [markHeads_port]
  split
  · next h => exact .single (.marked (by simp at h; exact h.1))
  · exact .refl

/-! ### Examinations -/

/-- The head of input `x` may be examined: there is one, and it is not ANSWERED. -/
def Examinable (x : Port) (s : State) : Prop := (s.port x).reqLane ≠ [] ∧ (s.port x).head.undecided

theorem HeadState.undecided.not_answered {st : HeadState} (h : st.undecided) (res : Option Resolution) (a : Reply) :
    st ≠ .answered res a := by
  rintro rfl
  simp [HeadState.undecided, HeadState.waiting] at h

theorem Examinable.congr {x : Port} {s t : State} (h : Examinable x s) (hl : (t.port x).reqLane = (s.port x).reqLane)
    (hh : (t.port x).head = (s.port x).head) : Examinable x t := by
  rwa [Examinable, hl, hh]

theorem movesInternally_setHead {x : Port} {st : HeadState} {s : State} (h : Examinable x s) (hs : st ≠ .empty) :
    MovesInternally s (setHead x st s) :=
  movesInternally_modifyPort (.examined st h.1 h.2 hs)

theorem movesInternally_offerAnswer {x : Port} {s : State} (res : Option Resolution) (a : Reply)
    (h : Examinable x s) : MovesInternally s (offerAnswer x res a s) := by
  unfold offerAnswer
  split
  · next hr =>
    refine (movesInternally_admitClaimant _ _ hr).trans (movesInternally_popHead ?_)
    simpa using h.2.not_answered
  · exact movesInternally_modifyPort (.examined (.answered res a) h.1 h.2 (by simp))

theorem movesInternally_dropWithFault {x : Port} {s : State} (r : FaultReport) (h : Examinable x s) :
    MovesInternally s (dropWithFault x r s) := by
  refine (movesInternally_of_ports (raiseFault_port r s)).trans (movesInternally_popHead ?_)
  simpa using h.2.not_answered

theorem movesInternally_stopHead {x : Port} {s : State} (res : Option Resolution) (q : Request) (st : Status)
    (r : FaultReport) (h : Examinable x s) : MovesInternally s (stopHead x res q st r s) := by
  unfold stopHead
  split
  · exact movesInternally_dropWithFault r h
  · exact movesInternally_offerAnswer res _ h

theorem movesInternally_stopByFence {x : Port} {s : State} (res : Option Resolution) (q : Request)
    (h : Examinable x s) : MovesInternally s (stopByFence x res q s) := by
  unfold stopByFence
  split
  · refine (movesInternally_modifyPort (.counted _ h.1)).trans (movesInternally_popHead ?_)
    simpa [countFencedDrop] using h.2.not_answered
  · exact movesInternally_offerAnswer res _ h

theorem movesInternally_stopMalformed {x : Port} {s : State} (q : Request) (m : Malformation) (h : Examinable x s) :
    MovesInternally s (stopMalformed x q m s) := by
  unfold stopMalformed
  split
  · exact movesInternally_dropWithFault _ h
  · exact movesInternally_offerAnswer none _ h

theorem movesInternally_lockOrOffer {x : Port} {s : State} (res : Resolution) (h : Examinable x s) :
    MovesInternally s (lockOrOffer x res s) := by
  unfold lockOrOffer
  split <;> exact movesInternally_setHead h (by simp)

theorem movesInternally_outputChecks {x : Port} {s : State} (q : Request) (res : Resolution) (h : Examinable x s) :
    MovesInternally s (outputChecks x q res s) := by
  unfold outputChecks
  split
  · exact movesInternally_lockOrOffer res h
  · split
    · exact movesInternally_lockOrOffer res h
    · exact movesInternally_stopHead _ q _ _ h

/-- A marking keeps the lane and the head of every port. -/
theorem markHeads_lane_head (which : Port → PortRec → Bool) (s : State) (p : Port) :
    ((markHeads which s).port p).reqLane = (s.port p).reqLane ∧ ((markHeads which s).port p).head = (s.port p).head := by
  rw [markHeads_port]
  split <;> exact ⟨rfl, rfl⟩

theorem Examinable.markHeads {x : Port} {s : State} (which : Port → PortRec → Bool) (h : Examinable x s) :
    Examinable x (markHeads which s) :=
  h.congr (markHeads_lane_head which s x).1 (markHeads_lane_head which s x).2

/-- A CLAIM is decided by a change of the locks alone, with a marking when a record was taken (R108, R66). -/
theorem decideClaim_state (x : Port) (i : Fin 48) (s : State) :
    ∃ r l, (decideClaim x i s).2 = s ∨ (decideClaim x i s).2 = setLock r l s ∨
      (decideClaim x i s).2 = markForLocks (setLock r l s) := by
  unfold decideClaim
  split
  · exact ⟨_, _, .inr (.inl rfl)⟩
  · split
    · exact ⟨0, none, .inl rfl⟩
    · split
      · exact ⟨_, _, .inr (.inr rfl)⟩
      · exact ⟨0, none, .inl rfl⟩

/-- A RELEASE is decided by freeing a record, with a marking, or changes nothing (R111, R66). -/
theorem decideRelease_state (x : Port) (i : Fin 48) (s : State) :
    ∃ r, (decideRelease x i s).2 = s ∨ (decideRelease x i s).2 = markForLocks (setLock r none s) := by
  unfold decideRelease
  split
  · exact ⟨_, .inr rfl⟩
  · exact ⟨0, .inl rfl⟩

theorem movesInternally_answerPathLock {x : Port} {s : State} (q : Request) (i : Fin 48) (d : Port) (out : Addr)
    (h : Examinable x s) : MovesInternally s (answerPathLock x q i d out s) := by
  unfold answerPathLock refuse
  dsimp only
  split
  · obtain ⟨r, l, e | e | e⟩ := decideClaim_state x i s <;> rw [e]
    · exact movesInternally_offerAnswer _ _ h
    · exact movesInternally_offerAnswer (s := setLock r l s) _ _ h
    · exact (movesInternally_markHeads _ (setLock r l s)).trans (movesInternally_offerAnswer _ _ (Examinable.markHeads _ h))
  · obtain ⟨r, e | e⟩ := decideRelease_state x i s <;> rw [e]
    · exact movesInternally_offerAnswer _ _ h
    · exact (movesInternally_markHeads _ (setLock r none s)).trans (movesInternally_offerAnswer _ _ (Examinable.markHeads _ h))

theorem movesInternally_resolveAddress {x : Port} {s : State} (q : Request) (h : Examinable x s) :
    MovesInternally s (resolveAddress x q s) := by
  unfold resolveAddress
  dsimp only
  split
  · exact movesInternally_stopHead _ q _ _ h
  · exact movesInternally_stopHead _ q _ _ h
  · split
    · exact movesInternally_answerPathLock q _ _ _ h
    · exact movesInternally_outputChecks q _ h

theorem movesInternally_stopByHopLimit {x : Port} {s : State} (q : Request) (h : Examinable x s) :
    MovesInternally s (stopByHopLimit x q s) := by
  unfold stopByHopLimit
  split
  · exact movesInternally_dropWithFault _ h
  · exact (movesInternally_of_ports (raiseFault_port _ s)).trans
      (movesInternally_offerAnswer _ _ (h.congr (by simp) (by simp)))

theorem movesInternally_resolveForward {x : Port} {s : State} (q : Request) (h : Examinable x s) :
    MovesInternally s (resolveForward x q s) := by
  unfold resolveForward
  dsimp only
  split
  · exact movesInternally_outputChecks q _ h
  · exact movesInternally_stopHead _ q _ _ h

theorem movesInternally_resolveNode {x : Port} {s : State} (q : Request) (h : Examinable x s) :
    MovesInternally s (resolveNode x q s) := by
  unfold resolveNode
  split
  · split
    · exact movesInternally_dropWithFault _ h
    · exact movesInternally_setHead h (by simp)
  · split
    · exact movesInternally_stopByHopLimit q h
    · exact movesInternally_resolveForward q h

theorem movesInternally_examineHead {x : Port} {s : State} (h : (s.port x).head = .unexamined) :
    MovesInternally s (examineHead x s) := by
  unfold examineHead
  split
  · next hl => exact movesInternally_modifyPort (.noHead hl)
  · next q rest hl =>
    have hx : Examinable x s := ⟨by simp [hl], .inl h⟩
    split
    · exact movesInternally_stopByFence none q hx
    · split
      · exact movesInternally_stopMalformed q _ hx
      · split
        · exact movesInternally_resolveNode q hx
        · exact movesInternally_resolveAddress q hx

theorem movesInternally_recheckHeld {x : Port} {s : State} (q : Request) (res : Resolution) (h : Examinable x s) :
    MovesInternally s (recheckHeld x q res s) := by
  unfold recheckHeld
  split
  · exact movesInternally_stopByFence _ q h
  · exact movesInternally_outputChecks q res h

theorem movesInternally_reexamineHead (x : Port) (s : State) : MovesInternally s (reexamineHead x s) := by
  unfold reexamineHead
  dsimp only
  split
  · next hl hh => exact movesInternally_recheckHeld _ _ ⟨by simp [hl], .inr (by simp [hh, HeadState.waiting])⟩
  · next hl hh => exact movesInternally_recheckHeld _ _ ⟨by simp [hl], .inr (by simp [hh, HeadState.waiting])⟩
  · exact movesInternally_modifyPort .unmarked

/-! ### The arbiters -/

/-- Who may be given a freed slot of the Reply Queue of `x`, and what is done for it (R84). -/
theorem giveSlot_cases (x : Port) (s : State) :
    (∃ i e st, s.track[i] = some e ∧ e.state = .replyDue st ∧ e.origin = x ∧
      giveSlot x s = toTombstone i e (enqueueReply x ⟨synthReply e st, false⟩ s)) ∨
    (∃ p r i e, replyInHand p s = some (r, i, e) ∧ e.origin = x ∧ giveSlot x s = relayReply p r i e s) ∨
    (∃ res a, (s.port x).head = .answered res a ∧
      giveSlot x s = popHead x (admitClaimant x dispatchClaimant ⟨a, false⟩ s)) ∨
    (∃ q, s.mgmt = .replyHeld x q ∧ giveSlot x s = { admitClaimant x mgmtClaimant q s with mgmt := .idle }) ∨
    giveSlot x s = s := by
  unfold giveSlot
  split
  · next i hi =>
    have hd := List.find?_some hi
    refine .inl ?_
    cases he : s.track[i] with
    | none => simp [owesReplyTo, he] at hd
    | some e =>
      obtain ⟨st, o, tag, d, k, g, t⟩ := e
      cases st <;> simp [owesReplyTo, he] at hd
      next st => exact ⟨i, _, st, he, rfl, hd, by simp [serveReplyDue, he]⟩
  · split
    · next c hc =>
      have hw := List.find?_some hc
      unfold claimantWaits at hw
      unfold admitWaiting
      split at hw
      · next p hp =>
        dsimp only
        split at hw
        · next r i e hr => exact .inr (.inl ⟨p, r, i, e, hr, by simpa using hw, rfl⟩)
        · simp at hw
      · next hp =>
        dsimp only
        split at hw
        · next hd =>
          simp only [hd, if_true]
          split at hw
          · next res a ha => exact .inr (.inr (.inl ⟨res, a, ha, rfl⟩))
          · simp at hw
        · next hd =>
          simp only [hd, if_false]
          split at hw
          · next o q hm =>
            obtain rfl : o = x := by simpa using hw
            exact .inr (.inr (.inr (.inl ⟨q, hm, rfl⟩)))
          · simp at hw
    · exact .inr (.inr (.inr (.inr rfl)))

/-- The state in which the oldest reply of `out` has begun transmission and its slot is not yet given out (R78). -/
def replyBegun (out : Port) (q : QueuedReply) (rest : List QueuedReply) (s : State) : State :=
  (beginParcel out (.reply (owedCredits (s.port out)) q.reply) q.tied s).modifyPort out fun r =>
    { r with replyQueue := rest, credits := { r.credits with rep := r.credits.rep - 1 } }

theorem sendReply_eq {out : Port} {q : QueuedReply} {rest : List QueuedReply} {s : State}
    (h : (s.port out).replyQueue = q :: rest) : sendReply out s = giveSlot out (replyBegun out q rest s) := by
  simp [sendReply, h, replyBegun]

theorem replyBegun_port_self (out : Port) (q : QueuedReply) (rest : List QueuedReply) (s : State) :
    (replyBegun out q rest s).port out = (s.port out).replySent q rest [] (s.port out).queuePointer := by
  simp [replyBegun, beginParcel, PortRec.replySent]

theorem replyBegun_port_of_ne {out p : Port} (q : QueuedReply) (rest : List QueuedReply) (s : State) (h : p ≠ out) :
    (replyBegun out q rest s).port p = s.port p := by
  simp [replyBegun, beginParcel, State.port_modifyPort_of_ne, h]

theorem PortRec.replySent_admit (q a : QueuedReply) (rest : List QueuedReply) (old ptr : Fin 8) (r : PortRec) :
    { r.replySent q rest [] old with
        replyQueue := (r.replySent q rest [] old).replyQueue ++ [a], queuePointer := ptr } =
      r.replySent q rest [a] ptr := by
  simp [PortRec.replySent]

/-- A reply begins transmission and one more joins the queue in its slot. -/
theorem movesInternally_replyBegun {out : Port} {q : QueuedReply} {rest : List QueuedReply} {s t : State}
    (ht : transmitterReady (s.port out) = true) (hc : 0 < (s.port out).credits.rep)
    (hq : (s.port out).replyQueue = q :: rest) (added : List QueuedReply) (ptr : Fin 8) (ha : added.length ≤ 1)
    (hself : t.port out = { (replyBegun out q rest s).port out with replyQueue := rest ++ added, queuePointer := ptr })
    (hne : ∀ p, p ≠ out → t.port p = (replyBegun out q rest s).port p) : MovesInternally s t := by
  intro p
  by_cases hp : p = out
  · subst hp
    rw [hself, replyBegun_port_self]
    exact .single (.replySent q rest added ptr ht hc hq ha)
  · rw [hne p hp, replyBegun_port_of_ne q rest s hp]

theorem movesInternally_sendReply {out : Port} {s : State} (ht : transmitterReady (s.port out) = true)
    (hr : replyReady (s.port out) = true) : MovesInternally s (sendReply out s) := by
  obtain ⟨hq, hc⟩ : (s.port out).replyQueue ≠ [] ∧ 0 < (s.port out).credits.rep := by simpa [replyReady] using hr
  obtain ⟨q, rest, hq⟩ := List.exists_cons_of_ne_nil hq
  rw [sendReply_eq hq]
  have hself := replyBegun_port_self out q rest s
  obtain ⟨i, e, st, -, -, -, hg⟩ | ⟨p, r, i, e, -, rfl, hg⟩ | ⟨res, a, hh, hg⟩ | ⟨r, -, hg⟩ | hg :=
    giveSlot_cases out (replyBegun out q rest s) <;> rw [hg]
  · exact movesInternally_replyBegun ht hc hq [⟨synthReply e st, false⟩] (s.port out).queuePointer (by simp)
      (by simp [toTombstone, hself, PortRec.replySent]) fun p hp => by simp [toTombstone, hp]
  · refine (movesInternally_replyBegun (t := admitClaimant e.origin (laneClaimant p) ⟨{ r with tag := e.tag }, false⟩ _)
      ht hc hq [⟨{ r with tag := e.tag }, false⟩] (laneClaimant p) (by simp) ?_ fun p hp => by simp [hp]).trans (movesInternally_popReply p _)
    simp [hself, PortRec.replySent]
  · have hh' : (s.port out).head = .answered res a := by simpa [hself, PortRec.replySent] using hh
    intro p
    by_cases hp : p = out
    · subst hp
      cases hl : (s.port p).reqLane with
      | nil =>
        rw [popHead_port_nil (by simpa [hself, PortRec.replySent] using hl), admitClaimant_port_self, hself,
          PortRec.replySent_admit]
        have m := InternalMove.replySent q rest [⟨a, false⟩] dispatchClaimant ht hc hq (by simp)
        exact .head m (.single (.noHead (r := (s.port p).replySent q rest [⟨a, false⟩] dispatchClaimant) hl))
      | cons h lane =>
        rw [popHead_port_cons (h := h) (rest := lane) (by simpa [hself, PortRec.replySent] using hl),
          admitClaimant_port_self, hself, PortRec.replySent_admit]
        exact .single (.answerSent q rest res a h lane ht hc hq hh' hl)
    · rw [popHead_port_of_ne hp, admitClaimant_port_of_ne hp, replyBegun_port_of_ne q rest s hp]
  · refine (movesInternally_replyBegun (t := admitClaimant out mgmtClaimant r _) ht hc hq [r] mgmtClaimant (by simp) ?_
      fun p hp => by simp [hp]).trans (movesInternally_of_ports fun p => rfl)
    simp [hself, PortRec.replySent]
  · exact movesInternally_replyBegun ht hc hq [] (s.port out).queuePointer (by simp)
      (by simp [hself, PortRec.replySent]) fun p hp => rfl

theorem beginGrant_port_self (out : Port) (i : Fin 7) (r : Request) (s : State) :
    (beginGrant out i r s).port out =
      { s.port out with tx := some ⟨.request (owedCredits (s.port out)) r, false⟩, owed := ⟨0, 0⟩, arbPointer := i
                        credits := { (s.port out).credits with req := (s.port out).credits.req - 1 } } := by
  simp [beginGrant, takeRequestCredit, beginParcel]

theorem beginGrant_port_of_ne {out p : Port} (i : Fin 7) (r : Request) (s : State) (h : p ≠ out) :
    (beginGrant out i r s).port p = s.port p := by
  simp [beginGrant, takeRequestCredit, beginParcel, State.port_modifyPort_of_ne, h]

theorem movesInternally_beginGrant {out : Port} (i : Fin 7) (r : Request) {s : State}
    (h : transmitterReady (s.port out) = true) : MovesInternally s (beginGrant out i r s) := by
  intro p
  by_cases hp : p = out
  · subst hp
    rw [beginGrant_port_self]
    exact .single (.begun _ 1 i h)
  · rw [beginGrant_port_of_ne i r s hp]

theorem beginGrant_head (out p : Port) (i : Fin 7) (r : Request) (s : State) :
    ((beginGrant out i r s).port p).head = (s.port p).head := by
  by_cases hp : p = out
  · subst hp; rw [beginGrant_port_self]
  · rw [beginGrant_port_of_ne i r s hp]

theorem movesInternally_grantHead {out x : Port} (i : Fin 7) (r : Request) {s : State}
    (h : transmitterReady (s.port out) = true) (hx : (s.port x).head.undecided) :
    MovesInternally s (grantHead out x i r s) := by
  refine (movesInternally_beginGrant i r h).trans (movesInternally_popHead ?_)
  rw [beginGrant_head]
  exact hx.not_answered

theorem offeredAt_eq_some {out x : Port} {s : State} {h : Request} {res : Resolution} :
    offeredAt out x s = some (h, res) ↔
      (∃ rest, (s.port x).reqLane = h :: rest) ∧ (s.port x).head = .offered res ∧ res.route.output = some out := by
  unfold offeredAt
  cases hl : (s.port x).reqLane with
  | nil => simp
  | cons q rest =>
    cases hh : (s.port x).head with
    | offered r =>
      dsimp only
      split
      · next ho =>
        simp only [Option.some.injEq, Prod.mk.injEq, List.cons.injEq, exists_and_left, exists_eq', and_true,
          HeadState.offered.injEq]
        constructor
        · rintro ⟨rfl, rfl⟩; exact ⟨rfl, rfl, ho⟩
        · rintro ⟨rfl, rfl, -⟩; exact ⟨rfl, rfl⟩
      · next ho =>
        simp only [reduceCtorEq, HeadState.offered.injEq, false_iff, not_and]
        rintro - rfl
        exact ho
    | _ => simp

theorem Examinable.of_offeredAt {out x : Port} {s : State} {h : Request} {res : Resolution}
    (ho : offeredAt out x s = some (h, res)) : Examinable x s := by
  obtain ⟨⟨rest, hl⟩, hh, -⟩ := offeredAt_eq_some.1 ho
  exact ⟨by simp [hl], .inr (by simp [hh, HeadState.waiting])⟩

theorem movesInternally_tryInput {out : Port} (i : Fin 7) {s : State} (h : transmitterReady (s.port out) = true) :
    MovesInternally s (tryInput out i s).state := by
  unfold tryInput
  split
  · split
    · exact .refl s
    · exact (movesInternally_of_ports fun p => rfl).trans (movesInternally_beginGrant 6 _ h)
  · split
    · exact .refl s
    · next x _ q res ho =>
      have hx := Examinable.of_offeredAt ho
      split
      · exact movesInternally_grantHead i _ h hx.2
      · split
        · exact (movesInternally_of_ports fun p => setEntry_port _ _ _ p).trans (movesInternally_grantHead i _ h hx.2)
        · exact movesInternally_offerAnswer _ _ hx
        · exact .refl s

/-- Offering an answer leaves every transmitter as it is. -/
theorem offerAnswer_transmitter (x p : Port) (res : Option Resolution) (a : Reply) (s : State) :
    transmitterReady ((offerAnswer x res a s).port p) = transmitterReady (s.port p) := by
  unfold offerAnswer
  split
  · by_cases hp : p = x
    · subst hp
      cases hl : (s.port p).reqLane with
      | nil =>
        rw [popHead_port_nil (by simpa using hl)]
        simp [transmitterReady]
      | cons q rest =>
        rw [popHead_port_cons (h := q) (rest := rest) (by simpa using hl)]
        simp [transmitterReady]
    · rw [popHead_port_of_ne hp, admitClaimant_port_of_ne hp]
  · rw [State.port_modifyPort]
    split <;> rfl

/-- A candidate that is passed over changes nothing, or is refused (R80). -/
theorem tryInput_passed {out : Port} {i : Fin 7} {s t : State} (h : tryInput out i s = .passed t) :
    t = s ∨ ∃ x q res, offeredAt out x s = some (q, res) ∧ t = offerAnswer x (some res) ⟨q.tag, 0x14#8, []⟩ s := by
  unfold tryInput at h
  split at h
  · split at h
    · exact .inl (by simpa using h.symm)
    · cases h
  · split at h
    · exact .inl (by simpa using h.symm)
    · next x _ _ q res ho =>
      split at h
      · cases h
      · split at h
        · cases h
        · refine .inr ⟨_, q, res, ho, ?_⟩
          simpa [refuse, Status.code] using h.symm
        · exact .inl (by simpa using h.symm)

theorem movesInternally_tryInputs {out : Port} (is : List (Fin 7)) {s : State}
    (h : transmitterReady (s.port out) = true) : MovesInternally s (tryInputs out is s) := by
  induction is generalizing s with
  | nil => exact .refl s
  | cons i rest ih =>
    unfold tryInputs
    split
    · have hm := movesInternally_tryInput i h
      split
      · next t e => rwa [e] at hm
      · next t e =>
        rw [e] at hm
        refine hm.trans (ih ?_)
        obtain rfl | ⟨x, q, res, -, rfl⟩ := tryInput_passed e
        · exact h
        · exact (offerAnswer_transmitter x out _ _ s).trans h
    · exact ih h

theorem movesInternally_sendCredit {out : Port} {s : State} (h : transmitterReady (s.port out) = true) :
    MovesInternally s (sendCredit out s) :=
  movesInternally_modifyPort (.begun _ 0 (s.port out).arbPointer h)

theorem movesInternally_chooseNext {out : Port} {s : State} (h : transmitterReady (s.port out) = true) :
    MovesInternally s (chooseNext out s) := by
  unfold chooseNext
  split
  · next hr => exact movesInternally_sendReply h hr
  · split
    · exact movesInternally_tryInputs _ h
    · exact movesInternally_sendCredit h

theorem offeredAtM_eq_some {x : Port} {s : State} {h : Request} :
    offeredAtM x s = some h ↔
      (∃ rest, (s.port x).reqLane = h :: rest) ∧ ∃ g, (s.port x).head = .offered ⟨.management, g⟩ := by
  unfold offeredAtM
  cases hl : (s.port x).reqLane with
  | nil => simp
  | cons q rest =>
    cases hh : (s.port x).head with
    | offered r =>
      obtain ⟨rt, g⟩ := r
      dsimp only
      split
      · next hr => subst hr; simp
      · next hr => simp [hr]
    | _ => simp

theorem movesInternally_grantM (s : State) : MovesInternally s (grantM s) := by
  unfold grantM
  split
  · exact .refl s
  · split
    · exact .refl s
    · next x _ _ h ho =>
      obtain ⟨-, g, hh⟩ := offeredAtM_eq_some.1 ho
      exact (movesInternally_popHead (p := x) (by simp [hh])).trans (movesInternally_of_ports fun p => rfl)

/-! ### Which actions may be taken -/

theorem mem_allPorts (p : Port) : p ∈ allPorts := by revert p; decide

theorem examine_mem_dueNow {s : State} {x : Port} : .examine x ∈ dueNow s ↔ (s.port x).head = .unexamined := by
  simp [dueNow, mem_allPorts]

theorem reexamine_mem_dueNow {s : State} {x : Port} : .reexamine x ∈ dueNow s ↔ (s.port x).recheck = true := by
  simp [dueNow, mem_allPorts]

theorem placeReply_mem_dueNow {s : State} : .placeReply ∈ dueNow s ↔ replyPlaceable s = true := by
  simp [dueNow]

theorem grantM_notMem_dueNow (s : State) : .grantM ∉ dueNow s := by simp [dueNow]

theorem choose_notMem_dueNow (s : State) (x : Port) : .choose x ∉ dueNow s := by simp [dueNow]

theorem grantM_mem_arbiterChoices {s : State} : .grantM ∈ arbiterChoices s ↔ (nextAtM s).isSome = true := by
  simp [arbiterChoices]

theorem choose_mem_arbiterChoices {s : State} {x : Port} : .choose x ∈ arbiterChoices s ↔ canSend s x = true := by
  simp [arbiterChoices, mem_allPorts]

theorem mem_arbiterChoices {s : State} {a : Internal} (h : a ∈ arbiterChoices s) :
    a = .grantM ∨ ∃ x, a = .choose x := by
  cases a <;> simp [arbiterChoices] at h ⊢

theorem mem_internalActions {s : State} {a : Internal} :
    a ∈ internalActions s ↔ a ∈ dueNow s ∨ (dueNow s = [] ∧ a ∈ arbiterChoices s) := by
  unfold internalActions
  cases h : dueNow s <;> simp

theorem replyPlaceable_iff (s : State) :
    replyPlaceable s = true ↔ ∃ o q, s.mgmt = .replyHeld o q ∧ queueHasRoom s o = true := by
  unfold replyPlaceable
  cases s.mgmt <;> simp

/-- Every action that may be taken moves the port records by internal moves. -/
theorem movesInternally_doInternal {a : Internal} {s : State} (k : Nat) (h : a ∈ internalActions s) :
    MovesInternally s (doInternal a { s with freeUsed := k }) := by
  rw [mem_internalActions] at h
  cases a with
  | examine x =>
    have hx := examine_mem_dueNow.1 (h.resolve_right (by simp [arbiterChoices]))
    exact movesInternally_examineHead (s := { s with freeUsed := k }) hx
  | reexamine x => exact movesInternally_reexamineHead x { s with freeUsed := k }
  | placeReply =>
    have hp := placeReply_mem_dueNow.1 (h.resolve_right (by simp [arbiterChoices]))
    obtain ⟨o, q, hm, hr⟩ := (replyPlaceable_iff s).1 hp
    have e : doInternal .placeReply { s with freeUsed := k } =
        { admitClaimant o mgmtClaimant q { s with freeUsed := k } with mgmt := .idle } := by
      simp [doInternal, placeReply, hm]
    rw [e]
    exact movesInternally_admitClaimant (s := { s with freeUsed := k }) mgmtClaimant q hr
  | grantM => exact movesInternally_grantM { s with freeUsed := k }
  | choose x =>
    have hc := choose_mem_arbiterChoices.1 (h.resolve_left (choose_notMem_dueNow s x)).2
    have ht : transmitterReady (s.port x) = true := by simp [canSend] at hc; exact hc.1
    exact movesInternally_chooseNext (s := { s with freeUsed := k }) ht

/-- Coming to rest moves the port records by internal moves. -/
theorem movesInternally_settle (s : State) : MovesInternally s (settle s) :=
  settle_keeps (MovesInternally s) s (.refl s) fun _ _ k hu ha => hu.trans (movesInternally_doInternal k ha)

end Sys2Proof.Machine
end

section
/-! SUPPORT. The events as moves of the port records: every command of the table, with all that it sets off, takes every port
record through moves, unless it is an edge of RST#. -/

namespace Sys2Proof.Machine

open Sys2Proof

/-- RST# keeps its level, and every port record goes through moves alone. -/
structure Moves (s t : State) : Prop where
  low : t.resetLow = s.resetLow
  ports : ∀ p : Port, Relation.ReflTransGen PortMove (s.port p) (t.port p)

theorem Moves.refl (s : State) : Moves s s := ⟨rfl, fun _ => .refl⟩

theorem Moves.trans {s t u : State} (h : Moves s t) (k : Moves t u) : Moves s u :=
  ⟨k.low.trans h.low, fun p => (h.ports p).trans (k.ports p)⟩

theorem moves_of_ports {s t : State} (hl : t.resetLow = s.resetLow) (h : ∀ p, t.port p = s.port p) : Moves s t :=
  ⟨hl, fun p => by rw [h p]⟩

theorem MovesInternally.moves {s t : State} (h : MovesInternally s t) (hl : t.resetLow = s.resetLow) : Moves s t :=
  ⟨hl, fun p => Relation.ReflTransGen.mono (p := PortMove) (fun _ _ => Or.inl) _ _ (h p)⟩

/-- One event move of one port record. -/
theorem moves_modifyPort {s : State} {p : Port} {f : PortRec → PortRec} (m : EventMove (s.port p) (f (s.port p))) :
    Moves s (s.modifyPort p f) := by
  refine ⟨rfl, fun q => ?_⟩
  by_cases h : q = p
  · subst h
    rw [State.port_modifyPort_self]
    exact .single (.inr m)
  · rw [State.port_modifyPort_of_ne s f h]

/-- One event move of one port record, with the others as they were. -/
theorem moves_of_port {s t : State} {p : Port} (hl : t.resetLow = s.resetLow) (m : EventMove (s.port p) (t.port p))
    (hne : ∀ q, q ≠ p → t.port q = s.port q) : Moves s t := by
  refine ⟨hl, fun q => ?_⟩
  by_cases h : q = p
  · subst h
    exact .single (.inr m)
  · rw [hne q h]

/-- A change of other blocks before the moves. -/
theorem Moves.after {s u t : State} (h : Moves u t) (hl : u.resetLow = s.resetLow := by rfl)
    (hp : u.ports = s.ports := by rfl) : Moves s t :=
  (moves_of_ports hl fun p => by simp [State.port, hp]).trans h

/-- A change of other blocks after the moves. -/
theorem Moves.before {s u t : State} (h : Moves s u) (hl : t.resetLow = u.resetLow := by rfl)
    (hp : t.ports = u.ports := by rfl) : Moves s t :=
  h.trans (moves_of_ports hl fun p => by simp [State.port, hp])

/-- A property of records that every move keeps is kept at every port. -/
theorem Moves.keeps {P : PortRec → Prop} (internal : ∀ r q, InternalMove r q → P r → P q)
    (event : ∀ r q, EventMove r q → P r → P q) {s t : State} (h : Moves s t) {p : Port} (hp : P (s.port p)) :
    P (t.port p) := by
  have hm := h.ports p
  generalize t.port p = q at hm
  induction hm with
  | refl => exact hp
  | tail _ m ih => exact m.elim (fun m => internal _ _ m ih) (fun m => event _ _ m ih)

/-! ### Shared operations -/

theorem moves_raiseFault (r : FaultReport) (s : State) : Moves s (raiseFault r s) :=
  moves_of_ports (by simp) fun p => raiseFault_port r s p

theorem moves_routeCheck (s : State) : Moves s (routeCheck s) := moves_of_ports (by simp) fun p => routeCheck_port s p

theorem moves_withdrawNote (s : State) : Moves s (withdrawNote s) :=
  moves_of_ports (withdrawNote_resetLow s) (withdrawNote_port s)

theorem moves_withActions (s : State) (l : List PendingAction) : Moves s { s with actions := l } :=
  moves_of_ports rfl fun _ => rfl

theorem moves_markHeads (which : Port → PortRec → Bool) (s : State) : Moves s (markHeads which s) :=
  (movesInternally_markHeads which s).moves (by simp)

theorem moves_popReply (p : Port) (s : State) : Moves s (popReply p s) :=
  (movesInternally_popReply p s).moves (by simp)

theorem moves_settle (s : State) : Moves s (settle s) :=
  (movesInternally_settle s).moves
    (settle_keeps (fun u => u.resetLow = s.resetLow) s rfl fun a u k hu _ =>
      (sameSetup_doInternal a { u with freeUsed := k }).2.1.trans hu)

theorem moves_setEntry (i : Fin 64) (e : Option TrackEntry) (s : State) : Moves s (setEntry i e s) :=
  moves_of_ports rfl fun _ => rfl

theorem moves_toTombstone (i : Fin 64) (e : TrackEntry) (s : State) : Moves s (toTombstone i e s) :=
  moves_setEntry i _ s

theorem moves_placeSynth (i : Fin 64) (e : TrackEntry) (st : OwedStatus) (s : State) :
    Moves s (placeSynth i e st s) := by
  unfold placeSynth
  split
  · next hr =>
    split
    · next hu =>
      have m : InternalMove (s.port e.origin) _ :=
        .admitted ⟨synthReply e st, false⟩ (s.port e.origin).queuePointer (by simpa [State.isUp] using hu) hr
      exact ((movesInternally_modifyPort m).moves rfl).trans (moves_toTombstone i e _)
    · exact moves_toTombstone i e s
  · exact moves_setEntry i _ s

theorem moves_breakRecord (cause : BreakCause) (r : Fin 4) (s : State) : Moves s (breakRecord cause r s) := by
  unfold breakRecord
  split
  · exact .refl s
  · exact ((moves_raiseFault _ (setLock r none s)).trans (moves_markHeads (fun _ _ => true) _)).after

theorem moves_breakHeldBy (x : Port) (cause : BreakCause) (s : State) : Moves s (breakHeldBy x cause s) :=
  breakHeldBy_keeps (Moves s) x cause s (.refl s) fun r _ hu => hu.trans (moves_breakRecord cause r _)

theorem moves_setFence (p : Port) (s : State) : Moves s (setFence p s) := by
  unfold setFence
  split
  · exact .refl s
  · exact (moves_modifyPort (.fenced true)).trans ((moves_breakHeldBy _ _ _).trans (moves_markHeads _ _))

/-! ### Link loss, resets and deferred actions -/

theorem moves_lossAtEntry (x : Port) (s : State) (i : Fin 64) : Moves s (lossAtEntry x s i) := by
  unfold lossAtEntry
  split
  · exact .refl s
  · next e _ =>
    split
    · split
      · unfold hairpinLost
        split
        · exact moves_toTombstone i e s
        · exact moves_toTombstone i e s
        · exact .refl s
      · unfold originLost
        split
        · exact moves_setEntry i _ s
        · exact (moves_setEntry i none s).trans (moves_popReply _ _)
        · exact moves_toTombstone i e s
        · exact .refl s
    · split
      · unfold destinationLost
        split
        · exact moves_placeSynth i e _ s
        · exact moves_toTombstone i e s
        · exact .refl s
      · exact .refl s

theorem moves_lossAtTracking (x : Port) (s : State) : Moves s (lossAtTracking x s) :=
  lossAtTracking_keeps (Moves s) x s (.refl s) fun i u hu => hu.trans (moves_lossAtEntry x u i)

theorem moves_lossAtNote (x : Port) (s : State) : Moves s (lossAtNote x s) := by
  unfold lossAtNote
  split
  · exact .refl s
  · split
    · exact (moves_withdrawNote s).trans (moves_routeCheck _)
    · exact .refl s

theorem moves_lossAtMgmt (x : Port) (s : State) : Moves s (lossAtMgmt x s) := by
  unfold lossAtMgmt
  split
  · split
    · exact moves_of_ports rfl fun _ => rfl
    · exact .refl s
  · exact .refl s

theorem moves_leaveUp (x : Port) (cause : LossCause) (s : State) : Moves s (leaveUp x cause s) := by
  rw [leaveUp_eq]
  exact moves_modifyPort (.lost s.node cause)

/-- A link loss up to the deferred actions, which still stand in their list (log entry 12). -/
def lossState (x : Port) (cause : LossCause) (s : State) : State :=
  lossAtMgmt x (lossAtNote x (markHeads (fun _ r => headedFor x r.head)
    (breakHeldBy x (if cause.isOverrun then .fence else .link)
      (lossAtTracking x (raiseFault (lossReport x cause) (leaveUp x cause s))))))

theorem loseLink_eq (x : Port) (cause : LossCause) (s : State) :
    loseLink x cause s =
      { lossState x cause s with actions := (lossState x cause s).actions.filter fun a => a.origin != x } := rfl

theorem moves_lossState (x : Port) (cause : LossCause) (s : State) : Moves s (lossState x cause s) :=
  (moves_leaveUp x cause s).trans ((moves_raiseFault _ _).trans ((moves_lossAtTracking x _).trans
    ((moves_breakHeldBy x _ _).trans ((moves_markHeads _ _).trans
      ((moves_lossAtNote x _).trans (moves_lossAtMgmt x _))))))

theorem moves_loseLink (x : Port) (cause : LossCause) (s : State) : Moves s (loseLink x cause s) := by
  rw [loseLink_eq]
  exact (moves_lossState x cause s).trans (moves_withActions _ _)

theorem moves_warmBlocks (s : State) : Moves s (warmBlocks s) := moves_of_ports rfl fun _ => rfl

theorem moves_warmReset (s : State) : Moves s (warmReset s) := by
  have h : Moves s (allPorts.foldl warmResetPort s) :=
    List.foldlRecOn _ _ (.refl s) fun u hu p _ => by
      rw [warmResetPort_eq]
      exact hu.trans (moves_modifyPort (.warmed u.node))
  exact h.trans ((moves_warmBlocks _).trans ((moves_withdrawNote _).trans ((moves_routeCheck _).trans
    (moves_raiseFault _ _))))

theorem moves_enterTraining {q : Port} {s : State} (h : (s.port q).link ≠ .up) : Moves s (enterTraining q s) := by
  rw [enterTraining_eq]
  exact moves_modifyPort (.trained s.node h)

theorem moves_enablePort (q : Port) (s : State) : Moves s (enablePort q s) := by
  unfold enablePort
  split
  · next h => exact moves_enterTraining (by simp [h])
  · next h => exact moves_enterTraining (by simp [h])
  · exact .refl s

theorem moves_disablePort (q : Port) (s : State) : Moves s (disablePort q s).1 := by
  unfold disablePort
  split
  · exact .refl s
  · exact moves_loseLink q _ s
  · next h => exact moves_modifyPort (.turnedOff h)

theorem moves_restartPort (q : Port) (s : State) : Moves s (restartPort q s).1 := by
  unfold restartPort
  split
  · next h => exact moves_enterTraining (by simp [h])
  · exact moves_loseLink q _ s
  · exact .refl s

theorem moves_moveNode (n : Node) (s : State) : Moves s (moveNode n s) := by
  unfold moveNode
  split
  · exact .refl s
  · exact (moves_routeCheck _).after

theorem moves_takeActions (work : List PendingAction) (s : State) : Moves s (takeActions work s) :=
  takeActions_keeps (Moves s) work s (.refl s) (fun u hu => hu.trans (moves_warmReset u))
    (fun n u hu => hu.trans (moves_moveNode n u)) (fun q u hu => hu.trans (moves_disablePort q u))
    (fun q u hu => hu.trans (moves_restartPort q u))

theorem moves_linkLoss (x : Port) (cause : LossCause) (s : State) : Moves s (linkLoss x cause s) :=
  (moves_loseLink x cause s).trans (moves_takeActions _ _)

theorem moves_releaseAction (x : Port) (s : State) : Moves s (releaseAction x s) := by
  unfold releaseAction
  split
  · exact .refl s
  · exact (moves_takeActions _ _).after

/-! ### Events of the links and timers -/

theorem moves_acceptHello {p : Port} {s : State} (node : Node) {a b : Byte} (f : Bool)
    (hl : (s.port p).link = .training) (hg : offersGood a b = true) :
    Moves s (acceptHello p node ⟨a.toNat, b.toNat⟩ f s) := by
  cases h : (s.port p).seen || f with
  | false => rw [acceptHello_unseen h]; exact moves_modifyPort (.hearing node a b hl hg)
  | true =>
    rw [acceptHello_seen h]
    exact (moves_modifyPort (.entering s.node node a b hl hg)).trans (moves_routeCheck _)

theorem moves_firstOfTraining (p : Port) (n : Node) (a b : Byte) (f : Bool) (s : State) :
    Moves s (firstOfTraining p n a b f s) := by
  unfold firstOfTraining
  split
  · next h => exact moves_acceptHello n f h.1 h.2
  · exact .refl s

/-- Credit returns change one record: they are taken where the peer's offers stand (R16). -/
theorem takeCredits_port_self {p : Port} {c : Credits} {o : LanePair} {s : State} (h : (s.port p).offers = some o) :
    (takeCredits p c s).port p =
      { s.port p with credits := ⟨min ((s.port p).credits.req + c.req.toNat) o.req,
                                  min ((s.port p).credits.rep + c.rep.toNat) o.rep⟩ } := by
  simp [takeCredits, h]

theorem takeCredits_none {p : Port} {c : Credits} {s : State} (h : (s.port p).offers = none) :
    takeCredits p c s = s :=
  State.modifyPort_eq_self (by simp [h])

theorem takeCredits_port_of_ne {p q : Port} (c : Credits) (s : State) (h : q ≠ p) :
    (takeCredits p c s).port q = s.port q :=
  State.port_modifyPort_of_ne s _ h

theorem moves_takeCredits {p : Port} (c : Credits) {s : State} (hu : (s.port p).link = .up) :
    Moves s (takeCredits p c s) := by
  cases ho : (s.port p).offers with
  | none => rw [takeCredits_none ho]; exact .refl s
  | some o =>
    refine moves_of_port (p := p) (by simp) ?_ fun q h => takeCredits_port_of_ne c s h
    rw [takeCredits_port_self ho]
    exact .credited c o hu ho

/-- Credit returns change the transmit credits alone (R16). -/
theorem takeCredits_port (p : Port) (c : Credits) (s : State) :
    ∃ k, (takeCredits p c s).port p = { s.port p with credits := k } := by
  cases ho : (s.port p).offers with
  | none => exact ⟨(s.port p).credits, by rw [takeCredits_none ho]⟩
  | some o => exact ⟨_, takeCredits_port_self ho⟩

theorem moves_receiveRequest {p : Port} (c : Credits) (r : Request) {s : State} (hu : (s.port p).link = .up) :
    Moves s (receiveRequest p c r s) := by
  obtain ⟨k, hk⟩ := takeCredits_port p c s
  unfold receiveRequest
  dsimp only
  refine (moves_takeCredits c hu).trans ?_
  split
  · next hl => exact moves_modifyPort (.requestStored r (by rw [hk]; exact hu) (by rw [hk]; exact hl))
  · exact moves_linkLoss p _ _

theorem moves_receiveReply {p : Port} (c : Credits) (r : Reply) {s : State} (hu : (s.port p).link = .up) :
    Moves s (receiveReply p c r s) := by
  obtain ⟨k, hk⟩ := takeCredits_port p c s
  unfold receiveReply
  dsimp only
  refine (moves_takeCredits c hu).trans ?_
  split
  · next hl => exact moves_modifyPort (.replyStored r (by rw [hk]; exact hu) (by rw [hk]; exact hl))
  · exact moves_linkLoss p _ _

theorem moves_noteLeft (p : Port) (s : State) : Moves s (noteLeft p s) := by
  unfold noteLeft
  split
  · exact .refl s
  · split
    · exact (moves_routeCheck _).after
    · exact .refl s

theorem moves_nextHello (p : Port) (s : State) : Moves s (nextHello p s) := by
  cases ht : (s.port p).tx with
  | some t => rw [nextHello, State.modifyPort_eq_self (by simp [ht])]; exact .refl s
  | none =>
    cases hk : (s.port p).helloDue with
    | zero => rw [nextHello, State.modifyPort_eq_self (by simp [ht, hk])]; exact .refl s
    | succ k => exact moves_modifyPort (by simp only [ht, hk]; exact .helloBegun _ k hk)

theorem moves_parcelGone (p : Port) (t : Transmission) (s : State) : Moves s (parcelGone p t s) := by
  unfold parcelGone
  dsimp only
  have h : Moves s (s.modifyPort p fun r => { r with tx := none }) := moves_modifyPort .sent
  refine (h.trans (moves_noteLeft p _)).trans (Moves.trans ?_ (moves_nextHello p _))
  split
  · exact moves_releaseAction p _
  · exact .refl _

theorem moves_relayOrHold (p : Port) (r : Reply) (i : Fin 64) (e : TrackEntry) (s : State) :
    Moves s (relayOrHold p r i e s) := by
  unfold relayOrHold
  split
  · next hr =>
    exact ((movesInternally_admitClaimant _ _ hr).moves rfl).trans ((moves_setEntry i none _).trans (moves_popReply p _))
  · exact moves_setEntry i _ s

theorem moves_discardReply (p : Port) (k : FaultKind) (r : Reply) (s : State) : Moves s (discardReply p k r s) :=
  (moves_raiseFault _ s).trans (moves_popReply p _)

theorem moves_judgeReply (p : Port) (r : Reply) (i : Fin 64) (s : State) : Moves s (judgeReply p r i s) := by
  unfold judgeReply
  split
  · exact moves_discardReply p _ r s
  · split
    · split
      · exact moves_relayOrHold p r i _ s
      · exact .refl s
      · exact (moves_setEntry i none s).trans (moves_popReply p _)
      · exact moves_discardReply p _ r s
      · exact moves_discardReply p _ r s
    · exact moves_discardReply p _ r s

/-- A free transmitter begins the HELLO (R3). -/
theorem sendHello_free {p : Port} {s : State} (h : (s.port p).tx = none) :
    sendHello p s = s.modifyPort p fun r => { r with tx := some ⟨.hello s.node 12#8 8#8 r.heard, false⟩ } :=
  State.modifyPort_congr (by simp [h, helloNow, Config.requestLaneSlots, Config.replyLaneSlots])

/-- With a busy transmitter the HELLO waits (R3; log entry 14). -/
theorem sendHello_busy {p : Port} {s : State} (h : (s.port p).tx ≠ none) :
    sendHello p s = s.modifyPort p fun r => { r with helloDue := r.helloDue + 1 } := by
  obtain ⟨t, ht⟩ := Option.ne_none_iff_exists'.1 h
  exact State.modifyPort_congr (by simp [ht])

theorem moves_sendHello_expired {p : Port} {s : State} (hl : (s.port p).link = .training) :
    Moves s (sendHello p (s.modifyPort p fun r => { r with helloTimer := some Config.helloPeriod })) := by
  by_cases ht : (s.port p).tx = none
  · rw [sendHello_free (by simpa using ht), State.modifyPort_modifyPort]
    exact moves_modifyPort (.helloSent _ (s.port p).helloDue hl)
  · rw [sendHello_busy (by simpa using ht), State.modifyPort_modifyPort]
    exact moves_modifyPort (.helloSent (s.port p).tx _ hl)

theorem moves_endAttempt {p : Port} {s : State} (hl : (s.port p).link = .training) : Moves s (endAttempt p s) := by
  unfold endAttempt
  split
  · dsimp only
    split
    · unfold beginAttempt countAttempt
      rw [State.modifyPort_modifyPort]
      exact moves_modifyPort (.attempted _ hl)
    · unfold haltPort loseManager enterHalted countAttempt
      rw [State.modifyPort_modifyPort]
      have h : Moves s (s.modifyPort p fun r => { silence { r with attempts := r.attempts + 1 } with link := .halted }) :=
        moves_modifyPort (.halted ((s.port p).attempts + 1) hl)
      refine (h.trans (moves_raiseFault { kind := .linkHalted, port := some p } _)).trans ?_
      split
      · exact (moves_raiseFault _ _).after
      · exact .refl _
  · exact moves_modifyPort (.attempted _ hl)

theorem moves_tick (s : State) : Moves s (tick s) := by
  refine ⟨rfl, fun p => .single (.inr ?_)⟩
  have h : (tick s).port p = tickPort (s.port p) := by simp [tick, State.port]
  rw [h]
  exact .ticked

/-! ### Directives -/

/-- Every effect that the value checks give keeps the port records to moves. -/
def ValueChecks.Move (checks : ValueChecks) : Prop :=
  ∀ args s effect, checks args s = some effect → ∀ u, Moves u (effect u).state

theorem moves_deliver (d : Directive) (r : DirResult) : Moves r.state (deliver d r) := by
  unfold deliver
  split
  · exact moves_of_ports rfl fun _ => rfl
  · exact (moves_takeActions _ _).after

theorem moves_runCommand {checks : ValueChecks} (c : Command) (d : Directive) (s : State) (h : checks.Move) :
    Moves s (runCommand c checks d s).state := by
  unfold runCommand
  split
  · exact .refl s
  · split
    · exact .refl s
    · split
      · exact .refl s
      · next effect he =>
        refine Moves.trans ?_ (h _ _ _ he _)
        unfold claimManager
        split
        · exact .refl s
        · exact moves_of_ports rfl fun _ => rfl

/-- The event takes place while RST# is high, and keeps the port records to moves. -/
def Result.Moves (s : State) (r : Result) : Prop := ∀ t, r = .next t → Machine.Moves s t

theorem whenRunning_moves {s : State} {effect : State → State} (h : s.resetLow = false → Moves s (effect s)) :
    Result.Moves s (whenRunning s effect) := by
  intro t ht
  unfold whenRunning at ht
  split at ht
  · obtain rfl : s = t := by simpa using ht
    exact .refl s
  · next hl =>
    obtain rfl : effect s = t := by simpa using ht
    exact h (by simpa using hl)

theorem next_moves (s : State) : Result.Moves s (.next s) := by
  rintro t ⟨⟩
  exact .refl s

theorem executeCommand_moves {checks : ValueChecks} (c : Command) (s : State) (h : checks.Move) :
    Result.Moves s (executeCommand c checks s) := by
  refine whenRunning_moves fun _ => ?_
  split
  · split
    · exact (moves_runCommand c _ s h).trans ((moves_deliver _ _).trans (moves_settle _))
    · exact .refl s
  · exact .refl s

theorem noArgs_move {effect : State → DirResult} (h : ∀ u, Moves u (effect u).state) : (noArgs effect).Move := by
  intro args s e he
  cases args with
  | nil => obtain rfl : effect = e := by simpa [noArgs] using he
           exact h
  | cons => simp [noArgs] at he

theorem portArg_move {effect : Port → State → DirResult} (h : ∀ p u, Moves u (effect p u).state) :
    (portArg effect).Move := by
  intro args s e he
  unfold portArg at he
  split at he
  · obtain ⟨p, -, rfl⟩ := Option.map_eq_some_iff.1 he
    exact h p
  · cases he

theorem timeArg_move {effect : Nat → State → DirResult} (h : ∀ n u, Moves u (effect n u).state) :
    (timeArg effect).Move := by
  intro args s e he
  unfold timeArg at he
  split at he
  · obtain ⟨n, -, rfl⟩ := Option.map_eq_some_iff.1 he
    exact h n
  · cases he

theorem breakLockChecks_move : breakLockChecks.Move := by
  intro args s e he
  unfold breakLockChecks at he
  split at he
  · split at he
    · obtain rfl := Option.some.inj he
      exact moves_breakRecord _ _
    · cases he
  · cases he

/-- Effects that keep every port record. -/
def ValueChecks.KeepPorts (checks : ValueChecks) : Prop :=
  ∀ args s effect, checks args s = some effect → ∀ u, (effect u).state.ports = u.ports ∧
    (effect u).state.resetLow = u.resetLow

theorem ValueChecks.KeepPorts.move {checks : ValueChecks} (h : checks.KeepPorts) : checks.Move := by
  intro args s e he u
  obtain ⟨hp, hl⟩ := h args s e he u
  exact moves_of_ports hl fun p => by simp [State.port, hp]

theorem commitTable_keepPorts (u : State) :
    (commitTable u).state.ports = u.ports ∧ (commitTable u).state.resetLow = u.resetLow := by
  unfold commitTable
  split
  · exact ⟨rfl, rfl⟩
  · split <;> exact ⟨rfl, rfl⟩

theorem writeNode_keepPorts (n : Node) (e : NodeEntry) (u : State) :
    (writeNode n e u).ports = u.ports ∧ (writeNode n e u).resetLow = u.resetLow := by
  unfold writeNode
  split <;> simp

theorem putAlertNode_keepPorts (v : Option Node) (u : State) :
    (putAlertNode v u).ports = u.ports ∧ (putAlertNode v u).resetLow = u.resetLow := by
  unfold putAlertNode
  dsimp only
  split
  · exact ⟨rfl, rfl⟩
  · split <;> simp

theorem armAlert_keepPorts (u : State) : (armAlert u).ports = u.ports ∧ (armAlert u).resetLow = u.resetLow := by
  unfold armAlert
  dsimp only
  split <;> simp

theorem nodeSetChecks_keepPorts : nodeSetChecks.KeepPorts := by
  intro args s e he u
  unfold nodeSetChecks at he
  split at he
  · split at he
    · split at he
      · cases he
      · obtain rfl := Option.some.inj he
        exact writeNode_keepPorts _ _ u
    · cases he
  · cases he

theorem setNodeChecks_keepPorts : setNodeChecks.KeepPorts := by
  intro args s e he u
  unfold setNodeChecks at he
  split at he
  · obtain ⟨n, -, rfl⟩ := Option.map_eq_some_iff.1 he
    exact ⟨rfl, rfl⟩
  · cases he

theorem setManagerChecks_keepPorts : setManagerChecks.KeepPorts := by
  intro args s e he u
  unfold setManagerChecks at he
  split at he
  · split at he
    · cases he
    · split at he
      · cases he
      · obtain rfl := Option.some.inj he
        exact ⟨rfl, rfl⟩
  · cases he

theorem faultReadChecks_keepPorts : faultReadChecks.KeepPorts := by
  intro args s e he u
  unfold faultReadChecks at he
  split at he
  · split at he
    · obtain rfl := Option.some.inj he
      exact ⟨rfl, rfl⟩
    · cases he
  · cases he

theorem faultPopChecks_keepPorts : faultPopChecks.KeepPorts := by
  intro args s e he u
  unfold faultPopChecks at he
  split at he
  · split at he
    · split at he
      · obtain rfl := Option.some.inj he
        exact ⟨rfl, rfl⟩
      · cases he
    · cases he
  · cases he

theorem faultPolicyChecks_keepPorts : faultPolicyChecks.KeepPorts := by
  intro args s e he u
  unfold faultPolicyChecks at he
  split at he
  · split at he
    · obtain rfl := Option.some.inj he
      exact ⟨rfl, rfl⟩
    · split at he
      · obtain rfl := Option.some.inj he
        exact ⟨rfl, rfl⟩
      · cases he
  · cases he

theorem alertSetChecks_keepPorts : alertSetChecks.KeepPorts := by
  intro args s e he u
  unfold alertSetChecks at he
  split at he
  · split at he
    · obtain rfl := Option.some.inj he
      exact putAlertNode_keepPorts none u
    · split at he
      · cases he
      · split at he
        · cases he
        · obtain rfl := Option.some.inj he
          exact putAlertNode_keepPorts _ u
  · cases he

theorem quotaChecks_keepPorts : quotaChecks.KeepPorts := by
  intro args s e he u
  unfold quotaChecks at he
  split at he
  · split at he
    · cases he
    · split at he
      · obtain rfl := Option.some.inj he
        exact ⟨rfl, rfl⟩
      · cases he
  · cases he

theorem deadlineChecks_keepPorts : deadlineChecks.KeepPorts := by
  intro args s e he u
  unfold deadlineChecks at he
  split at he
  · split at he
    · obtain rfl := Option.some.inj he
      exact ⟨rfl, rfl⟩
    · cases he
  · cases he

theorem tableWriteChecks_keepPorts : tableWriteChecks.KeepPorts := by
  intro args s e he u
  unfold tableWriteChecks at he
  split at he
  · split at he
    · cases he
    · split at he
      · obtain rfl := Option.some.inj he
        exact ⟨rfl, rfl⟩
      · cases he
  · cases he

theorem tableReadChecks_keepPorts : tableReadChecks.KeepPorts := by
  intro args s e he u
  unfold tableReadChecks at he
  split at he
  · split at he
    · cases he
    · split at he
      · obtain rfl := Option.some.inj he
        exact ⟨rfl, rfl⟩
      · split at he
        · obtain rfl := Option.some.inj he
          exact ⟨rfl, rfl⟩
        · cases he
  · cases he

theorem trackReadChecks_keepPorts : trackReadChecks.KeepPorts := by
  intro args s e he u
  unfold trackReadChecks at he
  split at he
  · split at he
    · obtain rfl := Option.some.inj he
      exact ⟨rfl, rfl⟩
    · cases he
  · cases he

/-! ### Every command -/

/-- While a directive row is executed the port records go through moves alone. -/
theorem exec_row_moves (c : Command) (s : State) : Result.Moves s (exec c.row s) := by
  have same : ∀ u : State, Moves u u := .refl
  cases c with
  | identify => exact executeCommand_moves _ s (noArgs_move same)
  | portStatus => exact executeCommand_moves _ s (portArg_move fun _ => same)
  | portEnable => exact executeCommand_moves _ s (portArg_move fun p u => moves_enablePort p u)
  | portDisable => exact executeCommand_moves _ s (portArg_move fun _ => same)
  | portRestart => exact executeCommand_moves _ s (portArg_move fun _ => same)
  | fence => exact executeCommand_moves _ s (portArg_move fun p u => moves_setFence p u)
  | unfence => exact executeCommand_moves _ s (portArg_move fun p u =>
      show Moves u (clearFence p u) from moves_modifyPort (.fenced false))
  | setQuota => exact executeCommand_moves _ s quotaChecks_keepPorts.move
  | setDeadline => exact executeCommand_moves _ s deadlineChecks_keepPorts.move
  | setTombstone => exact executeCommand_moves _ s (timeArg_move fun _ u => moves_of_ports rfl fun _ => rfl)
  | setLockLimit => exact executeCommand_moves _ s (timeArg_move fun _ u => moves_of_ports rfl fun _ => rfl)
  | resetRouter => exact executeCommand_moves _ s (noArgs_move same)
  | tableWrite => exact executeCommand_moves _ s tableWriteChecks_keepPorts.move
  | tableRead => exact executeCommand_moves _ s tableReadChecks_keepPorts.move
  | tableClear => exact executeCommand_moves _ s (noArgs_move fun u => moves_of_ports rfl fun _ => rfl)
  | commit =>
    exact executeCommand_moves _ s (noArgs_move fun u =>
      moves_of_ports (commitTable_keepPorts u).2 fun p => by simp [State.port, (commitTable_keepPorts u).1])
  | discard => exact executeCommand_moves _ s (noArgs_move fun u => moves_of_ports rfl fun _ => rfl)
  | trackRead => exact executeCommand_moves _ s trackReadChecks_keepPorts.move
  | lockRead => exact executeCommand_moves _ s (noArgs_move same)
  | breakLock => exact executeCommand_moves _ s breakLockChecks_move
  | nodeSet => exact executeCommand_moves _ s nodeSetChecks_keepPorts.move
  | nodeRead => exact executeCommand_moves _ s (noArgs_move same)
  | setNode => exact executeCommand_moves _ s setNodeChecks_keepPorts.move
  | setManager => exact executeCommand_moves _ s setManagerChecks_keepPorts.move
  | faultRead => exact executeCommand_moves _ s faultReadChecks_keepPorts.move
  | faultPop => exact executeCommand_moves _ s faultPopChecks_keepPorts.move
  | faultPolicy => exact executeCommand_moves _ s faultPolicyChecks_keepPorts.move
  | alertSet => exact executeCommand_moves _ s alertSetChecks_keepPorts.move
  | alertArm =>
    exact executeCommand_moves _ s (noArgs_move fun u =>
      moves_of_ports (armAlert_keepPorts u).2 fun p => by simp [okDone, reply, State.port, (armAlert_keepPorts u).1])

theorem execHelloTimerExpiry_moves (p : Port) (s : State) : Result.Moves s (execHelloTimerExpiry p s) := by
  refine whenRunning_moves fun _ => ?_
  split
  · next h => exact (moves_sendHello_expired h.1).trans (moves_settle _)
  · exact .refl s

theorem execAttemptTimerExpiry_moves (p : Port) (s : State) : Result.Moves s (execAttemptTimerExpiry p s) := by
  refine whenRunning_moves fun _ => ?_
  split
  · next h => exact (moves_endAttempt h.1).trans (moves_settle _)
  · exact .refl s

theorem execHelloAccept_moves (p : Port) (bytes : List Byte) (s : State) :
    Result.Moves s (execHelloAccept p bytes s) := by
  refine whenRunning_moves fun _ => ?_
  split
  · next hl =>
    split
    · next hg => exact (moves_acceptHello _ _ hl hg).trans (moves_settle _)
    · exact .refl s
  · exact .refl s

theorem execHelloReceiveUp_moves (p : Port) (bytes : List Byte) (s : State) :
    Result.Moves s (execHelloReceiveUp p bytes s) := by
  refine whenRunning_moves fun _ => ?_
  split
  · exact (moves_linkLoss p _ s).trans ((moves_firstOfTraining p _ _ _ _ _).trans (moves_settle _))
  · exact .refl s

theorem execDamagedParcel_moves (p : Port) (bytes : List Byte) (s : State) :
    Result.Moves s (execDamagedParcel p bytes s) := by
  refine whenRunning_moves fun _ => ?_
  split
  · exact (moves_linkLoss p _ s).trans (moves_settle _)
  · exact .refl s

theorem execRequestParcelReceive_moves (p : Port) (bytes : List Byte) (s : State) :
    Result.Moves s (execRequestParcelReceive p bytes s) := by
  refine whenRunning_moves fun _ => ?_
  split
  · next hu => exact (moves_receiveRequest _ _ hu).trans (moves_settle _)
  · exact .refl s

theorem execReplyParcelReceive_moves (p : Port) (bytes : List Byte) (s : State) :
    Result.Moves s (execReplyParcelReceive p bytes s) := by
  refine whenRunning_moves fun _ => ?_
  split
  · next hu => exact (moves_receiveReply _ _ hu).trans (moves_settle _)
  · exact .refl s

theorem execCreditReceive_moves (p : Port) (bytes : List Byte) (s : State) :
    Result.Moves s (execCreditReceive p bytes s) := by
  refine whenRunning_moves fun _ => ?_
  split
  · next hu => exact (moves_takeCredits _ hu).trans (moves_settle _)
  · exact .refl s

theorem execUnknownKindReceive_moves (p : Port) (bytes : List Byte) (s : State) :
    Result.Moves s (execUnknownKindReceive p bytes s) := by
  refine whenRunning_moves fun _ => ?_
  split
  · exact (moves_raiseFault _ s).trans (moves_settle _)
  · exact .refl s

theorem execParcelLeft_moves (p : Port) (s : State) : Result.Moves s (execParcelLeft p s) := by
  refine whenRunning_moves fun _ => ?_
  split
  · exact .refl s
  · exact (moves_parcelGone p _ s).trans (moves_settle _)

theorem execReplyMatch_moves (p : Port) (s : State) : Result.Moves s (execReplyMatch p s) := by
  refine whenRunning_moves fun _ => ?_
  split
  · exact .refl s
  · split
    · exact (moves_discardReply p _ _ s).trans (moves_settle _)
    · exact (moves_judgeReply p _ _ s).trans (moves_settle _)

theorem execDeadlineExpiry_moves (i : Fin 64) (s : State) : Result.Moves s (execDeadlineExpiry i s) := by
  refine whenRunning_moves fun _ => ?_
  split
  · split
    · exact (moves_raiseFault _ s).trans ((moves_placeSynth i _ _ _).trans (moves_settle _))
    · exact .refl s
  · exact .refl s

theorem execOrphanDeadlineExpiry_moves (i : Fin 64) (s : State) : Result.Moves s (execOrphanDeadlineExpiry i s) := by
  refine whenRunning_moves fun _ => ?_
  split
  · split
    · exact (moves_toTombstone i _ s).trans (moves_settle _)
    · exact .refl s
  · exact .refl s

theorem execTombstoneExpiry_moves (i : Fin 64) (s : State) : Result.Moves s (execTombstoneExpiry i s) := by
  refine whenRunning_moves fun _ => ?_
  split
  · split
    · exact (moves_setEntry i none s).trans (moves_settle _)
    · exact .refl s
  · exact .refl s

theorem execLockHoldExpiry_moves (r : Fin 4) (s : State) : Result.Moves s (execLockHoldExpiry r s) := by
  refine whenRunning_moves fun _ => ?_
  split
  · split
    · exact (moves_breakRecord _ r s).trans (moves_settle _)
    · exact .refl s
  · exact .refl s

theorem execUnknownCommand_moves (s : State) : Result.Moves s (execUnknownCommand s) := by
  refine whenRunning_moves fun _ => ?_
  split
  · next d _ =>
    split
    · exact (moves_deliver d (reply .badCommand [] s)).trans (moves_settle _)
    · exact .refl s
  · exact .refl s

/-- What a command does to the port records: the falling edge of RST# stops every port, the rising edge gives every port its
cold record, and every other command moves them. -/
theorem exec_ports (c : Instr) {s t : State} (h : exec c s = .next t) :
    (t.resetLow = true ∧ ∀ p, t.port p = resetPort (s.port p)) ∨
    (∃ n, ∀ p, t.port p = PortRec.cold n) ∨ Moves s t := by
  have row (k : Command) (e : c = k.row) : Moves s t := exec_row_moves k s t (e ▸ h)
  cases c with
  | coldResetAssert =>
    cases hl : s.resetLow
    · obtain rfl : assertReset s = t := by simpa [exec, execColdResetAssert, whenRunning, hl] using h
      exact .inl ⟨rfl, fun p => by simp [assertReset, State.port]⟩
    · obtain rfl : s = t := by simpa [exec, execColdResetAssert, whenRunning, hl] using h
      exact .inr (.inr (.refl s))
  | coldResetRelease n m =>
    simp only [exec, execColdResetRelease] at h
    split at h
    · obtain rfl := Host.Outcome.next.inj h
      exact .inr (.inl ⟨Fin.ofNat 32 n.toNat, fun p => by simp [State.cold, State.port]⟩)
    · obtain rfl := Host.Outcome.next.inj h
      exact .inr (.inr (.refl s))
  | timeBaseTick => exact .inr (.inr (whenRunning_moves (fun _ => moves_tick s) t h))
  | helloTimerExpiry p => exact .inr (.inr (execHelloTimerExpiry_moves p s t h))
  | attemptTimerExpiry p => exact .inr (.inr (execAttemptTimerExpiry_moves p s t h))
  | helloAccept p bytes => exact .inr (.inr (execHelloAccept_moves p bytes s t h))
  | helloReceiveUp p bytes => exact .inr (.inr (execHelloReceiveUp_moves p bytes s t h))
  | damagedParcel p bytes => exact .inr (.inr (execDamagedParcel_moves p bytes s t h))
  | parcelDiscardInactive => exact .inr (.inr (next_moves s t h))
  | requestParcelReceive p bytes => exact .inr (.inr (execRequestParcelReceive_moves p bytes s t h))
  | replyParcelReceive p bytes => exact .inr (.inr (execReplyParcelReceive_moves p bytes s t h))
  | creditReceive p bytes => exact .inr (.inr (execCreditReceive_moves p bytes s t h))
  | unknownKindReceive p bytes => exact .inr (.inr (execUnknownKindReceive_moves p bytes s t h))
  | parcelLeft p => exact .inr (.inr (execParcelLeft_moves p s t h))
  | replyMatch p => exact .inr (.inr (execReplyMatch_moves p s t h))
  | deadlineExpiry i => exact .inr (.inr (execDeadlineExpiry_moves i s t h))
  | orphanDeadlineExpiry i => exact .inr (.inr (execOrphanDeadlineExpiry_moves i s t h))
  | tombstoneExpiry i => exact .inr (.inr (execTombstoneExpiry_moves i s t h))
  | lockHoldExpiry r => exact .inr (.inr (execLockHoldExpiry_moves r s t h))
  | identify => exact .inr (.inr (row .identify rfl))
  | portStatus => exact .inr (.inr (row .portStatus rfl))
  | portEnable => exact .inr (.inr (row .portEnable rfl))
  | portDisable => exact .inr (.inr (row .portDisable rfl))
  | portRestart => exact .inr (.inr (row .portRestart rfl))
  | fence => exact .inr (.inr (row .fence rfl))
  | unfence => exact .inr (.inr (row .unfence rfl))
  | setQuota => exact .inr (.inr (row .setQuota rfl))
  | setDeadline => exact .inr (.inr (row .setDeadline rfl))
  | setTombstone => exact .inr (.inr (row .setTombstone rfl))
  | setLockLimit => exact .inr (.inr (row .setLockLimit rfl))
  | resetRouter => exact .inr (.inr (row .resetRouter rfl))
  | tableWrite => exact .inr (.inr (row .tableWrite rfl))
  | tableRead => exact .inr (.inr (row .tableRead rfl))
  | tableClear => exact .inr (.inr (row .tableClear rfl))
  | commit => exact .inr (.inr (row .commit rfl))
  | discard => exact .inr (.inr (row .discard rfl))
  | trackRead => exact .inr (.inr (row .trackRead rfl))
  | lockRead => exact .inr (.inr (row .lockRead rfl))
  | breakLock => exact .inr (.inr (row .breakLock rfl))
  | nodeSet => exact .inr (.inr (row .nodeSet rfl))
  | nodeRead => exact .inr (.inr (row .nodeRead rfl))
  | setNode => exact .inr (.inr (row .setNode rfl))
  | setManager => exact .inr (.inr (row .setManager rfl))
  | faultRead => exact .inr (.inr (row .faultRead rfl))
  | faultPop => exact .inr (.inr (row .faultPop rfl))
  | faultPolicy => exact .inr (.inr (row .faultPolicy rfl))
  | alertSet => exact .inr (.inr (row .alertSet rfl))
  | alertArm => exact .inr (.inr (row .alertArm rfl))
  | unknownCommand => exact .inr (.inr (execUnknownCommand_moves s t h))
  | trainingParcelDiscard => exact .inr (.inr (next_moves s t h))

/-- The same for one step, whose command stands at the front of the queue. -/
theorem step_ports {s t : State} (h : step s = .next t) :
    (t.resetLow = true ∧ ∀ p, t.port p = resetPort (s.port p)) ∨
    (∃ n, ∀ p, t.port p = PortRec.cold n) ∨ Moves s t := by
  unfold step at h
  split at h
  · obtain rfl := Host.Outcome.next.inj h
    exact .inr (.inr (.refl s))
  · next c rest _ =>
    obtain hr | hr | hm := exec_ports c h
    · exact .inl hr
    · exact .inr (.inl hr)
    · exact .inr (.inr hm.after)

/-! ### The laws of the port records -/

theorem withinCapacity_cold (n : Node) : (PortRec.cold n).withinCapacity := by simp [PortRec.withinCapacity, PortRec.cold]

theorem withinCapacity_resetPort (r : PortRec) : (resetPort r).withinCapacity := by
  simp [PortRec.withinCapacity, resetPort]

theorem linkGood_cold (n : Node) : (PortRec.cold n).linkGood := by simp [PortRec.linkGood, PortRec.cold]

theorem linkGood_resetPort {r : PortRec} (h : r.linkGood) : (resetPort r).linkGood := by
  obtain ⟨-, h2, h3, -⟩ := h
  simpa [PortRec.linkGood, resetPort] using ⟨h2, h3⟩

theorem silent_cold (low : Bool) (n : Node) : (PortRec.cold n).silent low := by simp [PortRec.silent, PortRec.cold]

theorem silent_resetPort (r : PortRec) : (resetPort r).silent true := by simp [PortRec.silent, resetPort]

/-- Settles O54: every move of a port record keeps its lanes, queue and owed credits within their capacities. -/
theorem everyStepKeepsTheCapacityLaw : Obligations.EveryStepKeepsTheCapacityLaw := by
  intro s t hs h p
  obtain ⟨-, hr⟩ | ⟨n, hc⟩ | hm := step_ports h
  · rw [hr p]; exact withinCapacity_resetPort _
  · rw [hc p]; exact withinCapacity_cold n
  · exact hm.keeps (fun _ _ => withinCapacity_of_internalMove) (fun _ _ => withinCapacity_of_eventMove) (hs p)

theorem step_keeps_linkLaw {s t : State} (h : step s = .next t) (hs : LinkLaw s) : LinkLaw t := by
  intro p
  obtain ⟨-, hr⟩ | ⟨n, hc⟩ | hm := step_ports h
  · rw [hr p]; exact linkGood_resetPort (hs p)
  · rw [hc p]; exact linkGood_cold n
  · exact hm.keeps (fun _ _ => linkGood_of_internalMove) (fun _ _ => linkGood_of_eventMove) (hs p)

theorem step_keeps_silenceLaw {s t : State} (h : step s = .next t) (hs : SilenceLaw s) : SilenceLaw t := by
  rw [silenceLaw_iff] at hs ⊢
  intro p
  obtain ⟨hl, hr⟩ | ⟨n, hc⟩ | hm := step_ports h
  · rw [hl, hr p]; exact silent_resetPort _
  · rw [hc p]; exact silent_cold _ n
  · rw [hm.low]
    exact hm.keeps (fun _ _ => silent_of_internalMove) (fun _ _ => silent_of_eventMove) (hs p)

/-- Settles O55: every move of a port record keeps the link law, and every move keeps the silence law. -/
theorem everyStepKeepsTheLinkLaw : Obligations.EveryStepKeepsTheLinkLaw :=
  fun _ _ h => ⟨step_keeps_linkLaw h, step_keeps_silenceLaw h⟩

end Sys2Proof.Machine
end

section
/-! SUPPORT. What a block may do by itself, when, and the state after a cold reset, which is at rest. -/

namespace Sys2Proof.Machine

open Sys2Proof

/-! ### When an internal action may be taken -/

/-- The cyclic order after any member names every member. -/
theorem mem_cyclicAfter {n : Nat} [NeZero n] (k x : Fin n) : x ∈ cyclicAfter k := by
  simp only [cyclicAfter, List.mem_map, List.mem_range]
  by_cases h : k.val < x.val
  · refine ⟨x.val - k.val - 1, by omega, Fin.ext ?_⟩
    have e : k.val + 1 + (x.val - k.val - 1) = x.val := by omega
    simp [Fin.ofNat, e, Nat.mod_eq_of_lt x.isLt]
  · refine ⟨x.val + n - k.val - 1, by omega, Fin.ext ?_⟩
    have e : k.val + 1 + (x.val + n - k.val - 1) = x.val + n := by omega
    simp [Fin.ofNat, e, Nat.mod_eq_of_lt x.isLt]

theorem dueNow_ne_nil_iff (s : State) :
    dueNow s ≠ [] ↔ (∃ x, (s.port x).head = .unexamined) ∨ (∃ x, (s.port x).recheck = true) ∨
      replyPlaceable s = true := by
  constructor
  · intro h
    obtain ⟨a, ha⟩ := List.exists_mem_of_ne_nil _ h
    cases a with
    | examine x => exact .inl ⟨x, examine_mem_dueNow.1 ha⟩
    | reexamine x => exact .inr (.inl ⟨x, reexamine_mem_dueNow.1 ha⟩)
    | placeReply => exact .inr (.inr (placeReply_mem_dueNow.1 ha))
    | grantM => exact absurd ha (grantM_notMem_dueNow s)
    | choose x => exact absurd ha (choose_notMem_dueNow s x)
  · rintro (⟨x, h⟩ | ⟨x, h⟩ | h)
    · exact List.ne_nil_of_mem (examine_mem_dueNow.2 h)
    · exact List.ne_nil_of_mem (reexamine_mem_dueNow.2 h)
    · exact List.ne_nil_of_mem (placeReply_mem_dueNow.2 h)

theorem examine_mem_internalActions {s : State} {x : Port} :
    .examine x ∈ internalActions s ↔ (s.port x).head = .unexamined := by
  rw [mem_internalActions, examine_mem_dueNow]
  simp [arbiterChoices]

theorem reexamine_mem_internalActions {s : State} {x : Port} :
    .reexamine x ∈ internalActions s ↔ (s.port x).recheck = true := by
  rw [mem_internalActions, reexamine_mem_dueNow]
  simp [arbiterChoices]

theorem placeReply_mem_internalActions {s : State} : .placeReply ∈ internalActions s ↔ replyPlaceable s = true := by
  rw [mem_internalActions, placeReply_mem_dueNow]
  simp [arbiterChoices]

theorem grantM_mem_internalActions {s : State} :
    .grantM ∈ internalActions s ↔ dueNow s = [] ∧ (nextAtM s).isSome = true := by
  rw [mem_internalActions, grantM_mem_arbiterChoices]
  simp [grantM_notMem_dueNow]

theorem choose_mem_internalActions {s : State} {x : Port} :
    .choose x ∈ internalActions s ↔ dueNow s = [] ∧ canSend s x = true := by
  rw [mem_internalActions, choose_mem_arbiterChoices]
  simp [choose_notMem_dueNow]

/-- The M arbiter has a head to grant when the Management Unit is IDLE and a head is offered to it (R82). -/
theorem nextAtM_isSome_iff (s : State) :
    (nextAtM s).isSome = true ↔ s.mgmt = .idle ∧ ∃ x, (offeredAtM x s).isSome = true := by
  unfold nextAtM
  cases s.mgmt with
  | idle => simp [mem_cyclicAfter]
  | _ => simp

theorem offeredAtM_isSome_iff (x : Port) (s : State) :
    (offeredAtM x s).isSome = true ↔
      ∃ h rest g, (s.port x).reqLane = h :: rest ∧ (s.port x).head = .offered ⟨.management, g⟩ := by
  simp only [Option.isSome_iff_exists, offeredAtM_eq_some]
  exact ⟨fun ⟨h, ⟨rest, hl⟩, g, hg⟩ => ⟨h, rest, g, hl, hg⟩, fun ⟨h, rest, g, hl, hg⟩ => ⟨h, ⟨rest, hl⟩, g, hg⟩⟩

theorem replyReady_iff (r : PortRec) : replyReady r = true ↔ r.replyQueue ≠ [] ∧ 0 < r.credits.rep := by
  simp [replyReady]

theorem requestReady_iff (s : State) (out : Port) :
    requestReady s out = true ↔ 0 < (s.port out).credits.req ∧ ∃ i, eligible s out i = true := by
  simp [requestReady, mem_cyclicAfter]

theorem creditsOwed_iff (r : PortRec) : creditsOwed r = true ↔ 0 < r.owed.req ∨ 0 < r.owed.rep := by
  simp [creditsOwed]

theorem canSend_iff (s : State) (out : Port) :
    canSend s out = true ↔ transmitterReady (s.port out) = true ∧
      (replyReady (s.port out) = true ∨ requestReady s out = true ∨ creditsOwed (s.port out) = true) := by
  simp [canSend, or_assoc]

theorem posted_iff (k : ReqKind) : k.posted = true ↔ k = .store ∨ k = .note := by cases k <;> simp [ReqKind.posted]

theorem route_output_iff (rt : Route) (out : Port) :
    rt.output = some out ↔ (∃ w a, rt = .memory w out a) ∨ ∃ n, rt = .forward out n := by
  cases rt <;> simp [Route.output]

theorem lowestFree_isSome_iff (s : State) : (lowestFree s).isSome = true ↔ ∃ j : Fin 64, s.track[j] = none := by
  simp [lowestFree, trackIndices]

theorem trackingRoom_iff (s : State) (x : Port) :
    trackingRoom s x = true ↔ (∃ j : Fin 64, s.track[j] = none) ∧ originCount s x < s.settings.quota[x] := by
  rw [← lowestFree_isSome_iff]
  simp [trackingRoom]

theorem portOfNat_fin (x : Port) : portOfNat x.val = some x := by simp [portOfNat]

/-- The head of input `x` is eligible at `out`: it is resolved to that output, and posted or with room for an entry (R74). -/
theorem eligible_iff {s : State} {out x : Port} {i : Fin 7} (h : i.val = x.val) :
    eligible s out i = true ↔ ∃ q res, offeredAt out x s = some (q, res) ∧
      (q.kind.posted = true ∨ trackingRoom s x = true) := by
  unfold eligible
  rw [h, portOfNat_fin]
  dsimp only
  cases ho : offeredAt out x s with
  | none => simp
  | some qr => obtain ⟨q, res⟩ := qr; simp

/-- An alert note is eligible at the port it is queued at, until it is being sent (R81). -/
theorem eligible_note_iff (s : State) (out : Port) :
    eligible s out 6 = true ↔ ∃ q, s.alert.queued = some q ∧ q.out = out ∧ q.sending = false := by
  have h : portOfNat (6 : Fin 7).val = none := by decide
  unfold eligible
  rw [h]
  dsimp only
  unfold noteOffered
  cases s.alert.queued with
  | none => simp
  | some q => dsimp only; split <;> simp_all

/-- Settles O60: membership in the list of internal actions, block by block. -/
theorem internalActionsAreThoseThatMayBeTaken : Obligations.InternalActionsAreThoseThatMayBeTaken := by
  intro s
  have undue : dueNow s = [] ↔ ¬ dueNow s ≠ [] := not_not.symm
  refine ⟨replyPlaceable s = true, dueNow s ≠ [], ?_, dueNow_ne_nil_iff s, fun x => examine_mem_internalActions,
    fun x => reexamine_mem_internalActions, placeReply_mem_internalActions, ?_, fun out => ?_, fun out x i hi => ?_,
    eligible_note_iff s, List.eq_nil_iff_forall_not_mem, fun x => ⟨rfl, rfl, rfl⟩, rfl, rfl⟩
  · simp [replyPlaceable_iff, queueHasRoom_iff]
  · rw [grantM_mem_internalActions, nextAtM_isSome_iff, undue]
    simp [offeredAtM_isSome_iff]
  · rw [choose_mem_internalActions, canSend_iff, transmitterReady_iff, replyReady_iff, requestReady_iff,
      creditsOwed_iff, undue]
    simp only [and_assoc]
  · rw [eligible_iff hi]
    simp only [offeredAt_eq_some, route_output_iff, posted_iff, trackingRoom_iff]
    constructor
    · rintro ⟨q, res, ⟨⟨rest, hl⟩, hh, ho⟩, hr⟩
      exact ⟨q, rest, res, hl, hh, ho, or_assoc.1 hr⟩
    · rintro ⟨q, rest, res, hl, hh, ho, hr⟩
      exact ⟨q, res, ⟨⟨rest, hl⟩, hh, ho⟩, or_assoc.2 hr⟩

/-! ### After a cold reset -/

@[simp] theorem State.cold_port (n : Node) (m : Option Port) (p : Port) : (State.cold n m).port p = PortRec.cold n := by
  simp [State.cold, State.port]

theorem State.cold_track (n : Node) (m : Option Port) (i : Fin 64) : (State.cold n m).track[i] = none := by
  simp [State.cold]

theorem State.cold_locks (n : Node) (m : Option Port) (r : Fin 4) : (State.cold n m).locks[r] = none := by
  simp [State.cold]

theorem nodeLaw_cold (n : Node) (m : Option Port) : NodeLaw (State.cold n m) := by
  intro k
  by_cases h : k = n
  · subst h; simp [State.cold]
  · have hv : ¬ n.val = k.val := fun e => h (Fin.ext e.symm)
    simp [State.cold, h, hv]

/-- A router in which no port has a head, nothing is owed and the Management Unit is IDLE is at rest, if no port is UP. -/
theorem quiet_of_no_port_up {s : State} (hu : ∀ p, (s.port p).link ≠ .up) (hl : ∀ p, (s.port p).reqLane = [])
    (hh : ∀ p, (s.port p).head = .empty) (hr : ∀ p, (s.port p).recheck = false) (hm : s.mgmt = .idle) : Quiet s := by
  rw [Quiet, List.eq_nil_iff_forall_not_mem]
  intro a
  cases a with
  | examine x => simp [examine_mem_internalActions, hh]
  | reexamine x => simp [reexamine_mem_internalActions, hr]
  | placeReply => simp [placeReply_mem_internalActions, replyPlaceable, hm]
  | grantM => simp [grantM_mem_internalActions, nextAtM_isSome_iff, offeredAtM_isSome_iff, hl]
  | choose x => simp [choose_mem_internalActions, canSend_iff, transmitterReady_iff, hu]

theorem quiet_cold (n : Node) (m : Option Port) : Quiet (State.cold n m) :=
  quiet_of_no_port_up (by simp [PortRec.cold]) (by simp [PortRec.cold]) (by simp [PortRec.cold]) (by simp [PortRec.cold])
    rfl

/-- Settles O59: each law at the state of the table of R183. -/
theorem lawsHoldAfterReset : Obligations.LawsHoldAfterReset := by
  refine ⟨fun n m => ⟨_, rfl, ?_, nodeLaw_cold n m, ?_, ?_, ?_, ?_, ?_, ?_, ?_, ?_, quiet_cold n m⟩, rfl⟩
  · intro i h
    simp [State.cold, WindowEntry.zero] at h
  · intro p _
    simp [PortRec.cold]
  · exact ⟨by simp [State.cold], rfl⟩
  · intro p
    rw [State.cold_port]
    exact withinCapacity_cold n
  · intro p
    rw [State.cold_port]
    exact linkGood_cold n
  · exact ⟨fun r q l k h => absurd ((State.cold_locks n m r).symm.trans h) (by simp),
      fun r l h => absurd ((State.cold_locks n m r).symm.trans h) (by simp)⟩
  · exact fun i j e f h => absurd ((State.cold_track n m i).symm.trans h) (by simp)
  · exact fun i e h => absurd ((State.cold_track n m i).symm.trans h) (by simp)
  · rw [silenceLaw_iff]
    intro p
    rw [State.cold_port]
    exact silent_cold _ n

end Sys2Proof.Machine
end

section
/-! CERTIFICATE. The events of training, of parcels in UP, of parcels that leave, and the examinations of a head: each
command's own effect by the state it finds. -/

namespace Sys2Proof.Machine

open Sys2Proof

theorem whenRunning_high {s : State} (h : s.resetLow = false) (effect : State → State) :
    whenRunning s effect = .next (effect s) := by
  simp [whenRunning, h]

/-! ### Training -/

theorem execHelloTimerExpiry_expired {p : Port} {s : State} (hr : s.resetLow = false)
    (hl : (s.port p).link = .training) (ht : (s.port p).helloTimer = some 0) :
    exec (.helloTimerExpiry p) s =
      .next (settle (sendHello p (s.modifyPort p fun r => { r with helloTimer := some 10 }))) := by
  simp only [exec, execHelloTimerExpiry]
  rw [whenRunning_high hr, if_pos ⟨hl, ht⟩]
  rfl

theorem execAttemptTimerExpiry_expired {p : Port} {s : State} (hr : s.resetLow = false)
    (hl : (s.port p).link = .training) (ht : (s.port p).attemptTimer = some 0) :
    exec (.attemptTimerExpiry p) s = .next (settle (endAttempt p s)) := by
  simp only [exec, execAttemptTimerExpiry]
  rw [whenRunning_high hr, if_pos ⟨hl, ht⟩]

/-- An attempt in which the peer was not heard is not counted (R7). -/
theorem endAttempt_unheard {p : Port} {s : State} (h : (s.port p).heard = false) :
    endAttempt p s = s.modifyPort p fun r => { r with seen := false, attemptTimer := some 200 } := by
  rw [endAttempt, if_neg (by simp [h])]
  exact State.modifyPort_congr (by simp [h, Config.attemptPeriod])

/-- A counted attempt below the fourth begins a new one (R7). -/
theorem endAttempt_counted {p : Port} {s : State} (h : (s.port p).heard = true) (ha : (s.port p).attempts < 3) :
    endAttempt p s = s.modifyPort p fun r =>
      { r with attempts := r.attempts + 1, heard := false, seen := false, attemptTimer := some 200 } := by
  have hc : ((countAttempt p s).port p).attempts < Config.maxAttempts := by
    simp [countAttempt, Config.maxAttempts]; omega
  rw [endAttempt, if_pos h]
  dsimp only
  rw [if_pos hc, beginAttempt, countAttempt, State.modifyPort_modifyPort]
  rfl

/-- The fourth counted attempt halts the port (R7). -/
theorem endAttempt_fourth {p : Port} {s : State} (h : (s.port p).heard = true) (ha : (s.port p).attempts = 3) :
    endAttempt p s = loseManager p (raiseFault { kind := .linkHalted, port := some p }
      (s.modifyPort p fun r =>
        { r with link := .halted, attempts := 4, helloTimer := none, attemptTimer := none, tx := none, helloDue := 0 })) := by
  have hc : ¬ ((countAttempt p s).port p).attempts < Config.maxAttempts := by
    simp [countAttempt, Config.maxAttempts, ha]
  rw [endAttempt, if_pos h]
  dsimp only
  rw [if_neg hc, haltPort, enterHalted, countAttempt, State.modifyPort_modifyPort]
  congr 2
  exact State.modifyPort_congr (by simp [silence, ha])

/-- Settles O8: the two timers of a port in TRAINING, by what the transmitter does and by the heard mark. -/
theorem trainingTimersSendAndCount : Obligations.TrainingTimersSendAndCount := by
  refine ⟨fun p s hr hl ht => ⟨fun hx => ?_, fun hx => ?_⟩,
    fun p s hr hl ht => ⟨fun hh => ?_, fun hh ha => ?_, fun hh ha => ⟨_, rfl, fun hm => ?_, fun hm => ?_⟩⟩⟩
  · rw [execHelloTimerExpiry_expired hr hl ht, sendHello_free (by simpa using hx), State.modifyPort_modifyPort]
    rfl
  · rw [execHelloTimerExpiry_expired hr hl ht, sendHello_busy (by simpa using hx), State.modifyPort_modifyPort]
  · rw [execAttemptTimerExpiry_expired hr hl ht, endAttempt_unheard hh]
  · rw [execAttemptTimerExpiry_expired hr hl ht, endAttempt_counted hh ha]
  · rw [execAttemptTimerExpiry_expired hr hl ht, endAttempt_fourth hh ha, loseManager, if_neg (by simpa using hm)]
  · rw [execAttemptTimerExpiry_expired hr hl ht, endAttempt_fourth hh ha, loseManager, if_pos (by simpa using hm)]

/-- A good HELLO in TRAINING is accepted when its offers are in range, and ignored otherwise (R5). -/
theorem execHelloAccept_training {p : Port} {bytes : List Byte} {n : Node} {a b : Byte} {f : Bool} {s : State}
    (hr : s.resetLow = false) (hl : (s.port p).link = .training) (hp : parse bytes = .parcel (.hello n a b f)) :
    exec (.helloAccept p bytes) s =
      .next (if offersGood a b then settle (acceptHello p n ⟨a.toNat, b.toNat⟩ f s) else s) := by
  simp only [exec, execHelloAccept]
  rw [whenRunning_high hr]
  simp only [hp, hl]

/-- Settles O10: a HELLO in TRAINING by its offers and the two marks. -/
theorem helloIsAcceptedInTraining : Obligations.HelloIsAcceptedInTraining := by
  intro p bytes n a b f s hr hl hp
  rw [execHelloAccept_training hr hl hp]
  refine ⟨fun hg hs hf => ?_, fun hg hs => ?_, fun hg => ?_⟩
  · rw [if_pos ((offersGood_iff a b).2 hg), acceptHello_unseen (by simp [hs, hf])]
    rfl
  · rw [if_pos ((offersGood_iff a b).2 hg), acceptHello_seen (by simpa using hs)]
    rfl
  · rw [if_neg (fun h => hg ((offersGood_iff a b).1 h))]

/-! ### Parcels in UP, and parcels that are discarded -/

theorem takeCredits_eq {p : Port} {c : Credits} {o : LanePair} {s : State} (h : (s.port p).offers = some o) :
    takeCredits p c s = s.modifyPort p fun r =>
      { r with credits := ⟨min (r.credits.req + c.req.toNat) o.req, min (r.credits.rep + c.rep.toNat) o.rep⟩ } :=
  State.modifyPort_congr (by simp [h])

theorem execRequestParcelReceive_up {p : Port} {bytes : List Byte} {c : Credits} {q : Request} {s : State}
    (hr : s.resetLow = false) (hl : (s.port p).link = .up) (hp : parse bytes = .parcel (.request c q)) :
    exec (.requestParcelReceive p bytes) s = .next (settle (receiveRequest p c q s)) := by
  simp only [exec, execRequestParcelReceive]
  rw [whenRunning_high hr]
  simp only [hp, hl]

theorem execReplyParcelReceive_up {p : Port} {bytes : List Byte} {c : Credits} {q : Reply} {s : State}
    (hr : s.resetLow = false) (hl : (s.port p).link = .up) (hp : parse bytes = .parcel (.reply c q)) :
    exec (.replyParcelReceive p bytes) s = .next (settle (receiveReply p c q s)) := by
  simp only [exec, execReplyParcelReceive]
  rw [whenRunning_high hr]
  simp only [hp, hl]

/-- A request with room in its lane is stored (R11). -/
theorem receiveRequest_room {p : Port} (c : Credits) (q : Request) {s : State} (h : (s.port p).reqLane.length < 12) :
    receiveRequest p c q s = storeRequest p q (takeCredits p c s) :=
  if_pos h

/-- A reply with room in its lane is stored (R11). -/
theorem receiveReply_room {p : Port} (c : Credits) (q : Reply) {s : State} (h : (s.port p).repLane.length < 8) :
    receiveReply p c q s = storeReply p q (takeCredits p c s) :=
  if_pos h

/-- Settles O12: each kind of parcel in UP by the lane it joins. -/
theorem parcelsInUpAreSorted : Obligations.ParcelsInUpAreSorted := by
  intro p bytes c o s hr hl ho
  refine ⟨fun q hp hn => ?_, fun q hp hn => ?_, fun hp => ?_, fun hp => ?_⟩
  · rw [execRequestParcelReceive_up hr hl hp, receiveRequest_room c q hn, takeCredits_eq ho, storeRequest,
      State.modifyPort_modifyPort]
    simp only [List.isEmpty_iff]
  · rw [execReplyParcelReceive_up hr hl hp, receiveReply_room c q hn, takeCredits_eq ho, storeReply,
      State.modifyPort_modifyPort]
  · simp only [exec, execCreditReceive]
    rw [whenRunning_high hr]
    simp only [hp, hl, takeCredits_eq ho]
  · simp only [exec, execUnknownKindReceive]
    rw [whenRunning_high hr]
    simp only [hp, hl, unknownKindReport]

theorem whenRunning_same {s : State} {effect : State → State} (h : effect s = s) : whenRunning s effect = .next s := by
  unfold whenRunning
  split
  · rfl
  · rw [h]

/-- Settles O13: a discarded parcel is an event without effect. -/
theorem discardedParcelsChangeNothing : Obligations.DiscardedParcelsChangeNothing := by
  refine fun p bytes s => ⟨fun _ => rfl, fun h => ?_, fun _ => rfl⟩
  simp only [exec, execDamagedParcel]
  exact whenRunning_same (by simp [h])

/-! ### Parcels that have left -/

theorem execParcelLeft_sending {p : Port} {t : Transmission} {s : State} (hr : s.resetLow = false)
    (ht : (s.port p).tx = some t) : exec (.parcelLeft p) s = .next (settle (parcelGone p t s)) := by
  simp only [exec, execParcelLeft]
  rw [whenRunning_high hr]
  simp only [ht]

theorem noteLeft_other {p : Port} {s : State} (h : ∀ q, s.alert.queued = some q → q.out = p → q.sending = false) :
    noteLeft p s = s := by
  unfold noteLeft
  split
  · rfl
  · next q hq => rw [if_neg (fun hc => by simp [h q hq hc.1] at hc)]

theorem noteLeft_own {p : Port} {q : QueuedNote} {s : State} (h : s.alert.queued = some q) (ho : q.out = p)
    (hs : q.sending = true) :
    noteLeft p s = routeCheck { s with alert := { s.alert with queued := none } } := by
  simp [noteLeft, h, ho, hs]

/-- No HELLO follows when none waits, or when the transmitter is busy (R3). -/
theorem nextHello_none {p : Port} {s : State} (h : (s.port p).helloDue = 0 ∨ (s.port p).tx ≠ none) :
    nextHello p s = s := by
  refine State.modifyPort_eq_self ?_
  cases ht : (s.port p).tx with
  | some t => simp
  | none => simp [h.resolve_right (by simp [ht])]

theorem nextHello_waiting {p : Port} {k : Nat} {s : State} (ht : (s.port p).tx = none)
    (hk : (s.port p).helloDue = k + 1) :
    nextHello p s =
      s.modifyPort p fun r => { r with tx := some ⟨.hello s.node 12#8 8#8 r.heard, false⟩, helloDue := k } :=
  State.modifyPort_congr (by simp [ht, hk, helloNow, Config.requestLaneSlots, Config.replyLaneSlots])

/-- Settles O17: what follows on the transmitter and in the alert path when a parcel has left. -/
theorem parcelLeftFreesTheTransmitter : Obligations.ParcelLeftFreesTheTransmitter := by
  refine ⟨fun p s ht => ?_, fun p x s hr ht hn => ⟨fun hk => ?_, fun k hk => ?_⟩,
    fun p x q s hr ht hk hq ho hs => ?_⟩
  · simp only [exec, execParcelLeft]
    exact whenRunning_same (by simp [ht])
  · rw [execParcelLeft_sending hr ht, parcelGone]
    simp only [Bool.false_eq_true, if_false]
    rw [noteLeft_other (by simpa using hn), nextHello_none (.inl (by simpa using hk))]
  · rw [execParcelLeft_sending hr ht, parcelGone]
    simp only [Bool.false_eq_true, if_false]
    rw [noteLeft_other (by simpa using hn), nextHello_waiting (k := k) (by simp) (by simpa using hk),
      State.modifyPort_modifyPort]
    rfl
  · rw [execParcelLeft_sending hr ht, parcelGone]
    simp only [Bool.false_eq_true, if_false]
    rw [noteLeft_own (s := s.modifyPort p _) hq ho hs, nextHello_none]
    · rfl
    · left
      rw [routeCheck_port]
      show ((s.modifyPort p fun r => { r with tx := none }).port p).helloDue = 0
      simpa using hk

/-! ### Replies and CREDITs that begin transmission -/

theorem popHead_eq {p : Port} {h : Request} {rest : List Request} {s : State} (hl : (s.port p).reqLane = h :: rest) :
    popHead p s = s.modifyPort p (PortRec.popped rest) :=
  State.modifyPort_congr (by simp [hl, PortRec.popped, Config.requestLaneSlots])

/-- Settles O30: the arbiter's choice by what it has to send, and the slots that are freed. -/
theorem repliesGoFirst : Obligations.RepliesGoFirst := by
  refine ⟨fun x s => ⟨_, rfl, fun q rest hq hc => ?_, fun hn he ho => ?_⟩, fun p h rest s hl => ?_,
    fun p q rest s hl => ?_⟩
  · rw [chooseNext, if_pos ((replyReady_iff _).2 ⟨by simp [hq], hc⟩), sendReply_eq hq, replyBegun, beginParcel,
      State.modifyPort_modifyPort]
    rfl
  · have h1 : ¬ replyReady (s.port x) = true := by
      rw [replyReady_iff]
      rintro ⟨hq, hc⟩
      exact hn.elim hq (by omega)
    have h2 : ¬ requestReady s x = true := by
      rw [requestReady_iff]
      rintro ⟨hc, i, hi⟩
      exact he.elim (by omega) fun h => by simp [h i] at hi
    rw [chooseNext, if_neg h1, if_neg h2]
    rfl
  · rw [popHead_eq hl]
    refine State.modifyPort_congr ?_
    cases rest <;> rfl
  · exact State.modifyPort_congr (by simp [hl, Config.replyLaneSlots])

/-! ### The resolution of DIRECTIVE and NOTE -/

theorem unfenceOfManager_iff (x : Port) (h : Request) (s : State) :
    unfenceOfManager x h s = true ↔ h.kind = .directive ∧ h.command = 0x07#8 ∧ s.manager = some x := by
  simp [unfenceOfManager, Command.code, and_assoc]

theorem passesFence_iff (x : Port) (h : Request) (s : State) :
    passesFence x h s = true ↔
      h.kind = .directive ∧ h.target.toNat = s.node.val ∧ h.command = 0x07#8 ∧ s.manager = some x := by
  simp only [passesFence, Bool.and_eq_true, unfenceOfManager_iff, beq_iff_eq]
  tauto

theorem fenceStops_eq_false_iff (x : Port) (passes : Bool) (s : State) :
    fenceStops x passes s = false ↔ (s.port x).fenced = false ∨ passes = true := by
  unfold fenceStops
  cases (s.port x).fenced <;> simp

/-- A well-formed DIRECTIVE or NOTE that passes the fence check is resolved by its node (R67, R70). -/
theorem examineHead_byNode {x : Port} {h : Request} {rest : List Request} {s : State}
    (hl : (s.port x).reqLane = h :: rest)
    (hf : (s.port x).fenced = false ∨
      (h.kind = .directive ∧ h.target.toNat = s.node.val ∧ h.command = 0x07#8 ∧ s.manager = some x))
    (hm : malformation h = none) (hk : h.kind = .directive ∨ h.kind = .note) :
    examineHead x s = resolveNode x h s := by
  have hs : fenceStops x (passesFence x h s) s = false :=
    (fenceStops_eq_false_iff _ _ _).2 (hf.imp_right (passesFence_iff x h s).2)
  have hb : h.kind.byNode = true := by rcases hk with hk | hk <;> simp [hk, ReqKind.byNode]
  unfold examineHead
  simp [hl, hs, hm, hb]

theorem resolveNode_own {x : Port} {h : Request} {s : State} (ht : h.target.toNat = s.node.val) :
    resolveNode x h s = if h.kind.posted then
        dropWithFault x { kind := .unhandledNote, port := some x, detail := some h.source } s
      else setHead x (.offered ⟨.management, s.windows.generation⟩) s := by
  simp [resolveNode, ht]

theorem resolveNode_hop {x : Port} {h : Request} {s : State} (ht : h.target.toNat ≠ s.node.val)
    (hh : h.hop.toNat = 0) : resolveNode x h s = stopByHopLimit x h s := by
  have h0 : h.hop = 0#8 := BitVec.eq_of_toNat_eq hh
  simp [resolveNode, ht, h0]

/-- A target that is another node is looked up in the Node Table (R70). -/
theorem resolveNode_forward {x : Port} {h : Request} {n : Node} {s : State} (ht : h.target.toNat = n.val)
    (hn : n ≠ s.node) (hh : h.hop.toNat ≠ 0) : resolveNode x h s = resolveForward x h s := by
  have ht' : ¬ h.target.toNat = s.node.val := fun e => hn (Fin.ext (ht.symm.trans e))
  have h0 : ¬ h.hop = 0#8 := fun e => hh (by simp [e])
  simp [resolveNode, ht', h0]

theorem resolveForward_port {x : Port} {h : Request} {n : Node} {s : State} {p : Port} (ht : h.target.toNat = n.val)
    (hp : s.nodeTable[n] = .port p) :
    resolveForward x h s = outputChecks x h ⟨.forward p n, s.windows.generation⟩ s := by
  have hf : Fin.ofNat 32 h.target.toNat = n := Fin.ext (by simp [Fin.ofNat, ht, Nat.mod_eq_of_lt n.isLt])
  simp only [resolveForward, hf, hp]

theorem resolveForward_noRoute {x : Port} {h : Request} {n : Node} {s : State} (ht : h.target.toNat = n.val)
    (hp : s.nodeTable[n] = .unreachable) :
    resolveForward x h s = stopHead x (some ⟨.nodeRefused .noRoute, s.windows.generation⟩) h .noRoute
      { kind := .noRoute, port := some x } s := by
  have hf : Fin.ofNat 32 h.target.toNat = n := Fin.ext (by simp [Fin.ofNat, ht, Nat.mod_eq_of_lt n.isLt])
  simp only [resolveForward, hf, hp]

/-- Settles O22: the three tests of R70 in their order, for a DIRECTIVE and for a NOTE. -/
theorem directivesAndNotesResolveByNode : Obligations.DirectivesAndNotesResolveByNode := by
  intro x h rest n s hl hf hm ht
  have far (hn : n ≠ s.node) : h.target.toNat ≠ s.node.val := fun e => hn (Fin.ext (ht.symm.trans e))
  refine ⟨_, rfl, fun hk => ?_, fun hk => ?_, fun hk hn hh p hp => ?_⟩
  · have hq : h.kind.posted = false := by simp [hk, ReqKind.posted]
    rw [examineHead_byNode hl hf hm (.inl hk)]
    refine ⟨fun hn => ?_, fun hn hh => ?_, fun hn hh hp => ?_⟩
    · rw [resolveNode_own (hn ▸ ht), hq]
      rfl
    · rw [resolveNode_hop (far hn) hh, stopByHopLimit, hq]
      rfl
    · rw [resolveNode_forward ht hn hh, resolveForward_noRoute ht hp]
      simp [stopHead, hq, refuse, Status.code]
  · have hq : h.kind.posted = true := by simp [hk, ReqKind.posted]
    rw [examineHead_byNode hl hf hm (.inr hk)]
    refine ⟨fun hn => ?_, fun hn hh => ?_, fun hn hh hp => ?_⟩
    · rw [resolveNode_own (hn ▸ ht), hq]
      rfl
    · rw [resolveNode_hop (far hn) hh, stopByHopLimit, hq]
      rfl
    · rw [resolveNode_forward ht hn hh, resolveForward_noRoute ht hp]
      simp [stopHead, hq, dropWithFault]
  · rw [examineHead_byNode hl hf hm hk, resolveNode_forward ht hn hh, resolveForward_port ht hp]

/-! ### Output link, lock, and later examinations -/

theorem isUp_iff (s : State) (p : Port) : s.isUp p = true ↔ (s.port p).link = .up := by simp [State.isUp]

theorem not_posted {k : ReqKind} (hs : k ≠ .store) (hn : k ≠ .note) : k.posted = false := by
  cases h : k.posted
  · rfl
  · exact absurd ((posted_iff k).1 h) (by simp [hs, hn])

/-- Some record holds window `w` for a port other than `x` (R73, R108). -/
theorem any_heldByOther_iff (x : Port) (w : Fin 48) (s : State) :
    s.locks.toList.any (heldByOther x w) = true ↔
      ∃ (r : Fin 4) (l : Lock), s.locks[r] = some l ∧ l.window = w ∧ l.holder ≠ x := by
  rw [List.any_eq_true]
  constructor
  · rintro ⟨l, hm, hl⟩
    obtain ⟨i, hi, rfl⟩ := List.getElem_of_mem hm
    have hi4 : i < 4 := by simpa using hi
    cases e : s.locks[i] with
    | none => simp [heldByOther, e] at hl
    | some k => exact ⟨⟨i, hi4⟩, k, e, by simpa [heldByOther, e] using hl⟩
  · rintro ⟨r, l, hl, hw, hh⟩
    exact ⟨some l, by rw [← hl]; simp, by simp [heldByOther, hw, hh]⟩

/-- A memory head is stopped by the lock check when a record holds its window for another port (R73). -/
theorem lockStops_iff (x : Port) (rt : Route) (s : State) :
    lockStops x rt s = true ↔ ∃ w d a, rt = .memory w d a ∧
      ∃ (r : Fin 4) (l : Lock), s.locks[r] = some l ∧ l.window = w ∧ l.holder ≠ x := by
  unfold lockStops
  cases rt with
  | memory w d a =>
    refine (any_heldByOther_iff x w s).trans ⟨fun h => ⟨w, d, a, rfl, h⟩, ?_⟩
    rintro ⟨_, _, _, ⟨rfl, rfl, rfl⟩, h⟩
    exact h
  | _ => simp [Route.lockedWindow]

theorem outputChecks_down {x d : Port} {h : Request} {res : Resolution} {s : State} (ho : res.route.output = some d)
    (hd : (s.port d).link ≠ .up) :
    outputChecks x h res s = stopHead x (some res) h .noLink (noLinkReport x h) s := by
  have hu : s.isUp d = false := by simpa [State.isUp] using hd
  simp [outputChecks, ho, hu]

theorem outputChecks_up {x d : Port} {h : Request} {res : Resolution} {s : State} (ho : res.route.output = some d)
    (hd : (s.port d).link = .up) : outputChecks x h res s = lockOrOffer x res s := by
  simp [outputChecks, ho, (isUp_iff s d).2 hd]

/-- A later examination of a head that waits applies the checks to the resolution it holds (R66). -/
theorem reexamineHead_waiting {x : Port} {h : Request} {rest : List Request} {res : Resolution} {s : State}
    (hl : (s.port x).reqLane = h :: rest) (hh : (s.port x).head = .offered res ∨ (s.port x).head = .lockWait res) :
    reexamineHead x s = recheckHeld x h res s := by
  rcases hh with hh | hh <;> simp [reexamineHead, hl, hh]

theorem passesAgain_iff (x : Port) (h : Request) (res : Resolution) (s : State) :
    passesAgain x h res s = true ↔
      h.kind = .directive ∧ h.command = 0x07#8 ∧ res.route = .management ∧ s.manager = some x := by
  simp only [passesAgain, Bool.and_eq_true, unfenceOfManager_iff, beq_iff_eq]
  tauto

theorem head_waiting_iff (st : HeadState) : st.waiting = true ↔ ∃ res, st = .offered res ∨ st = .lockWait res := by
  cases st <;> simp [HeadState.waiting]

theorem stopByFence_posted {x : Port} {res : Option Resolution} {h : Request} {s : State}
    (hk : h.kind = .store ∨ h.kind = .note) :
    stopByFence x res h s =
      popHead x (s.modifyPort x fun r => { r with fencedDrops := min (r.fencedDrops + 1) 65535 }) := by
  rw [stopByFence, if_pos ((posted_iff _).2 hk)]
  rfl

theorem stopByFence_refused {x : Port} {res : Option Resolution} {h : Request} {s : State}
    (hs : h.kind ≠ .store) (hn : h.kind ≠ .note) : stopByFence x res h s = offerAnswer x res ⟨h.tag, 0x13#8, []⟩ s := by
  rw [stopByFence, if_neg (by simp [not_posted hs hn])]
  rfl

/-- Settles O24: the output-link check, the lock check, the later examination, and what a marking sets. -/
theorem outputLinkAndLockChecks : Obligations.OutputLinkAndLockChecks := by
  refine ⟨fun x h res d s ho => ⟨fun hd hk => ?_, fun hd hk => ?_, fun hd hs hn => ?_, fun w out r l hd hr hl hw hx => ?_,
      fun hd hx => ?_⟩, fun x h rest res s hl hh => ⟨_, Iff.rfl, fun hp => ?_, fun hp hk => ?_, fun hp hs hn => ?_⟩,
    fun x h res s ho => ?_, fun which x s => ⟨_, Iff.rfl, fun hw ht => ?_, fun hw => ?_, ⟨_, rfl⟩, rfl⟩⟩
  · simp [outputChecks_down ho hd, stopHead, hk, ReqKind.posted, dropWithFault, noLinkReport]
  · simp [outputChecks_down ho hd, stopHead, hk, ReqKind.posted, dropWithFault, noLinkReport]
  · simp [outputChecks_down ho hd, stopHead, not_posted hs hn, refuse, Status.code]
  · rw [outputChecks_up ho hd, lockOrOffer, if_pos ((lockStops_iff x _ s).2 ⟨w, d, out, hr, r, l, hl, hw, hx⟩)]
    rfl
  · rw [outputChecks_up ho hd, lockOrOffer, if_neg]
    · rfl
    · rw [lockStops_iff]
      rintro ⟨w, d', a, hr, r, l, hl, hw, hne⟩
      obtain rfl : d' = d := by simpa [hr, Route.output] using ho
      exact hne (hx w a r l hr hl hw)
  · rw [reexamineHead_waiting hl hh, recheckHeld, if_neg]
    rw [(fenceStops_eq_false_iff _ _ _).2 (hp.imp_right (passesAgain_iff x h res s).2)]
    simp
  · rw [reexamineHead_waiting hl hh, recheckHeld, if_pos, stopByFence_posted hk]
    rw [← Bool.not_eq_false, fenceStops_eq_false_iff]
    exact fun hc => hp (hc.imp_right (passesAgain_iff x h res s).1)
  · rw [reexamineHead_waiting hl hh, recheckHeld, if_pos, stopByFence_refused hs hn]
    rw [← Bool.not_eq_false, fenceStops_eq_false_iff]
    exact fun hc => hp (hc.imp_right (passesAgain_iff x h res s).1)
  · have hns : ¬ lockStops x res.route s = true := by
      rw [lockStops_iff]
      rintro ⟨w, d, a, hr, -⟩
      simp [hr, Route.output] at ho
    simp only [outputChecks, ho]
    rw [lockOrOffer, if_neg hns]
    rfl
  · rw [markHeads_port, if_pos (by simp [(head_waiting_iff _).2 hw, ht])]
  · rw [markHeads_port, if_neg]
    rw [Bool.and_eq_true, head_waiting_iff]
    rintro ⟨h1, h2⟩
    exact hw.elim (fun h => h h1) (fun h => by simp [h2] at h)

end Sys2Proof.Machine
end

section
/-! CERTIFICATE. The warm reset: every port record in the warm-reset column, and every block but what R163 lists. -/

namespace Sys2Proof.Machine

open Sys2Proof

/-! ### The ports -/

/-- The warm reset of several ports changes their records alone. -/
theorem foldl_warmResetPort (l : List Port) (hl : l.Nodup) (s : State) :
    ∃ ports : Vector PortRec 6, l.foldl warmResetPort s = { s with ports := ports } ∧
      ∀ p : Port, ports[p] = if p ∈ l then (s.port p).warmed s.node else s.port p := by
  induction l generalizing s with
  | nil => exact ⟨s.ports, rfl, fun p => by simp [State.port]⟩
  | cons q rest ih =>
    rw [List.nodup_cons] at hl
    obtain ⟨ports, he, hp⟩ := ih hl.2 (s.modifyPort q (PortRec.warmed s.node))
    refine ⟨ports, ?_, fun p => ?_⟩
    · rw [List.foldl_cons, warmResetPort_eq, he]
      rfl
    · rw [hp p]
      by_cases hq : p = q
      · subst hq
        simp [hl.1]
      · simp [hq, State.port_modifyPort_of_ne]

theorem warmed_link (n : Node) (r : PortRec) : (r.warmed n).link = if r.link = .off then .off else .training := by
  unfold PortRec.warmed
  split
  · next h => simpa [warmPort] using h
  · rfl

theorem warmed_not_up (n : Node) (r : PortRec) : (r.warmed n).link ≠ .up := by
  rw [warmed_link]
  split <;> simp

/-- The fields that the warm reset sets in every port record (R1, R159, R160). -/
theorem warmed_cleared (n : Node) (r : PortRec) :
    NoTraffic (r.warmed n) ∧ (r.warmed n).attempts = 0 ∧ (r.warmed n).heard = false ∧ (r.warmed n).seen = false ∧
      (r.warmed n).peerNode = none ∧ (r.warmed n).offers = none ∧ (r.warmed n).fenced = false ∧
      (r.warmed n).fencedDrops = 0 ∧ (r.warmed n).arbPointer.val = 6 ∧ (r.warmed n).queuePointer.val = 7 := by
  unfold PortRec.warmed
  split <;> simp [NoTraffic, warmPort, PortRec.trained]

theorem warmed_off {r : PortRec} (n : Node) (h : r.link = .off) : (r.warmed n).link = .off ∧ (r.warmed n).tx = none := by
  simp [PortRec.warmed, warmPort, h]

theorem warmed_training {r : PortRec} (n : Node) (h : r.link ≠ .off) :
    (r.warmed n).link = .training ∧ (r.warmed n).helloTimer = some 10 ∧ (r.warmed n).attemptTimer = some 200 ∧
      (r.warmed n).tx = some ⟨.hello n 12#8 8#8 false, false⟩ := by
  simp [PortRec.warmed, warmPort, h, PortRec.trained]

/-! ### The alert path with no port UP -/

theorem alertRoute_of_down {s : State} (h : ∀ p, (s.port p).link ≠ .up) : alertRoute s = none := by
  unfold alertRoute
  split
  · rfl
  · split
    · next p _ => rw [if_neg (by simpa [isUp_iff] using h p)]
    · rfl

/-- A withdrawn note's alert is pending (R179). -/
theorem withdrawNote_alert (s : State) :
    (withdrawNote s).alert =
      { armed := s.alert.armed, pending := s.alert.pending || s.alert.queued.isSome, queued := none } := by
  unfold withdrawNote
  split
  · next h => simp [h]; rw [← h]
  · next h => simp [h]

/-- With no port UP a kept record's alert waits (R177, R178). -/
theorem raiseAlert_of_down {s : State} (h : ∀ p, (s.port p).link ≠ .up) (ha : s.alert.armed = true)
    (hn : s.settings.alertNode ≠ none) :
    (raiseAlert s).alert = { armed := false, pending := true, queued := s.alert.queued } := by
  have hs : s.settings.alertNode.isSome = true := Option.isSome_iff_ne_none.2 hn
  unfold raiseAlert setPendingAlert
  simp only [ha, hs, Bool.and_self, if_true]
  split
  · next hp => simp [show s.alert.pending = true from hp]
  · rw [routeCheck_none (alertRoute_of_down (by exact h))]

/-! ### The whole reset -/

/-- The warm reset changes the port records, the blocks of R160 to R162 and the alert, and then raises its fault. -/
theorem warmReset_eq (s : State) :
    ∃ ports : Vector PortRec 6, (∀ p : Port, ports[p] = (s.port p).warmed s.node) ∧
      warmReset s = raiseFault { kind := .warmReset } (withdrawNote (warmBlocks { s with ports := ports })) := by
  obtain ⟨ports, he, hp⟩ := foldl_warmResetPort allPorts (by decide) s
  simp only [mem_allPorts, if_true] at hp
  refine ⟨ports, hp, ?_⟩
  have hd : ∀ p, ((withdrawNote (warmBlocks { s with ports := ports })).port p).link ≠ .up := by
    intro p
    rw [withdrawNote_port]
    show ports[p].link ≠ .up
    rw [hp p]
    exact warmed_not_up _ _
  rw [warmReset, he, routeCheck_none (alertRoute_of_down hd)]

theorem warmReset_port (s : State) (p : Port) : (warmReset s).port p = (s.port p).warmed s.node := by
  obtain ⟨ports, hp, he⟩ := warmReset_eq s
  rw [he, raiseFault_port, withdrawNote_port, ← hp p]
  rfl

theorem isKept_iff (policy : Policy) (records : List FaultRecord) :
    isKept policy records = true ↔ records.length < 32 ∨ policy = .keepNewest := by
  simp only [isKept, Bool.or_eq_true, decide_eq_true_eq, beq_iff_eq]
  exact Iff.rfl

theorem keepRecord_room {policy : Policy} {records : List FaultRecord} {r : FaultRecord} (h : records.length < 32) :
    keepRecord policy records r = records ++ [r] :=
  if_pos h

theorem keepRecord_oldest {records : List FaultRecord} {r : FaultRecord} (h : 32 ≤ records.length) :
    keepRecord .keepOldest records r = records :=
  if_neg (Nat.not_lt.2 h)

theorem keepRecord_newest {records : List FaultRecord} {r : FaultRecord} (h : 32 ≤ records.length) :
    keepRecord .keepNewest records r = records.tail ++ [r] :=
  (if_neg (Nat.not_lt.2 h)).trans (by simp)

/-- The alert after a fault that is raised with no port UP (R169, R177). -/
theorem raiseFault_alert_of_down {s : State} (r : FaultReport) (h : ∀ p, (s.port p).link ≠ .up) :
    ((isKept s.faultList.policy s.faultList.records = true ∧ s.alert.armed = true ∧ s.settings.alertNode ≠ none) →
      (raiseFault r s).alert = { armed := false, pending := true, queued := s.alert.queued }) ∧
    (¬ (isKept s.faultList.policy s.faultList.records = true ∧ s.alert.armed = true ∧ s.settings.alertNode ≠ none) →
      (raiseFault r s).alert = s.alert) := by
  constructor
  · rintro ⟨hk, ha, hn⟩
    unfold raiseFault
    dsimp only
    rw [if_pos hk]
    exact raiseAlert_of_down h ha hn
  · intro hc
    by_cases hk : isKept s.faultList.policy s.faultList.records = true
    · unfold raiseFault
      dsimp only
      rw [if_pos hk, raiseAlert_off]
      by_cases ha : s.alert.armed = true
      · exact .inr (by_contra fun hn => hc ⟨hk, ha, hn⟩)
      · exact .inl (by simpa using ha)
    · exact raiseFault_alert_not_kept (by simpa using hk)

/-- Settles O6: the records of the ports, then each block, the record that is kept, and the alert. -/
theorem warmResetClearsTrafficAndKeepsTables : Obligations.WarmResetClearsTrafficAndKeepsTables := by
  intro s
  refine ⟨fun p => ?_, ?_⟩
  · rw [warmReset_port]
    obtain ⟨h1, h2, h3, h4, h5, h6, h7, h8, h9, h10⟩ := warmed_cleared s.node (s.port p)
    exact ⟨h1, h2, h3, h4, h5, h6, h7, h8, h9, h10, warmed_off s.node, warmed_training s.node⟩
  · obtain ⟨ports, hp, he⟩ := warmReset_eq s
    generalize hu : withdrawNote (warmBlocks { s with ports := ports }) = u at he
    have hd : ∀ p, (u.port p).link ≠ .up := by
      intro p
      rw [← hu, withdrawNote_port]
      show ports[p].link ≠ .up
      rw [hp p]
      exact warmed_not_up _ _
    have hf : u.faultList = s.faultList := by rw [← hu, withdrawNote_faultList]; rfl
    have hs : u.settings = s.settings := by rw [← hu, withdrawNote_settings]; rfl
    have ht : u.time = s.time := by rw [← hu, withdrawNote_time]; rfl
    have hl : u.fltLow = s.fltLow := by rw [← hu, withdrawNote_fltLow]; rfl
    have ha : u.alert = { armed := s.alert.armed, pending := s.alert.pending || s.alert.queued.isSome, queued := none } := by
      rw [← hu, withdrawNote_alert]; rfl
    obtain ⟨raised, quiet⟩ := raiseFault_alert_of_down { kind := .warmReset } hd
    have hq : (raiseFault { kind := .warmReset } u).alert.queued = none := by
      by_cases hc : isKept u.faultList.policy u.faultList.records = true ∧ u.alert.armed = true ∧
        u.settings.alertNode ≠ none
      · rw [raised hc, ha]
      · rw [quiet hc, ha]
    have hpend : s.alert.queued ≠ none → (raiseFault { kind := .warmReset } u).alert.pending = true := by
      intro hne
      by_cases hc : isKept u.faultList.policy u.faultList.records = true ∧ u.alert.armed = true ∧
        u.settings.alertNode ≠ none
      · rw [raised hc]
      · rw [quiet hc, ha]
        simp [Option.isSome_iff_ne_none.2 hne]
    rw [he]
    rw [hf, hs, ha, isKept_iff] at raised quiet
    simp only [raiseFault_faultList, raiseFault_fltLow, hf, ht, hl]
    refine ⟨?_, ?_, ?_, ?_, ?_, ?_, ?_, ?_, ?_, ?_, ?_, ?_, trivial, trivial, keepRecord_room,
      fun h hk => by rw [hk, keepRecord_oldest h], fun h hk => by rw [hk, keepRecord_newest h], hq, hpend, _, _, Iff.rfl,
      Iff.rfl, fun hk => ?_, fun hk => ?_, fun hr => ?_, fun hr => ?_⟩
    · simp [← hu, warmBlocks]
    · simp [← hu, warmBlocks]
    · simp [← hu, warmBlocks]
    · simp [← hu, warmBlocks]
    · simp [← hu, warmBlocks]
    · simp [← hu, warmBlocks]
    · simp [← hu, warmBlocks]
    · simp [← hu, warmBlocks]
    · simp [← hu, warmBlocks]
    · simp [hs]
    · simp [ht]
    · simp [← hu, warmBlocks]
    · rw [(isKept_iff _ _).2 hk, Bool.or_true]
    · rw [Bool.eq_false_of_not_eq_true (fun h => hk ((isKept_iff _ _).1 h)), Bool.or_false]
    · rw [raised hr]; exact ⟨rfl, rfl⟩
    · rw [quiet hr]; exact ⟨rfl, fun hn => by simp [hn]⟩

end Sys2Proof.Machine
end

section
/-! SUPPORT. Breaking locks: what the break of every lock of one port does to the records, the Fault List and the waiting
heads (R66, R115 to R117). -/

namespace Sys2Proof.Machine

open Sys2Proof

/-- The records among `rs` that `x` holds. -/
def heldAmong (x : Port) (rs : List (Fin 4)) (s : State) : List (Fin 4) :=
  rs.filter fun r => (s.locks[r]).any fun l => l.holder == x

theorem mem_heldAmong {x : Port} {rs : List (Fin 4)} {s : State} {r : Fin 4} :
    r ∈ heldAmong x rs s ↔ r ∈ rs ∧ ∃ l, s.locks[r] = some l ∧ l.holder = x := by
  simp [heldAmong, Option.any_eq_true]

theorem heldAmong_congr {x : Port} {rs : List (Fin 4)} {s t : State} (h : ∀ r ∈ rs, t.locks[r] = s.locks[r]) :
    heldAmong x rs t = heldAmong x rs s :=
  List.filter_congr fun r hr => by rw [h r hr]

/-- The LOCK_BROKEN record of lock record `r`, numbered `seq` (R115). -/
def brokenFault (x : Port) (detail : Byte) (s : State) (seq : BitVec 16) (r : Fin 4) : FaultRecord :=
  ⟨seq, s.time,
    { kind := .lockBroken, port := some x, index := s.locks[r].map fun l => BitVec.ofNat 6 l.window.val,
      detail := some detail }⟩

/-- The records in `held`, which `x` holds in `s`, are broken in `t`, in the order of the list (R66, R115). -/
structure LocksBroken (x : Port) (cause : BreakCause) (held : List (Fin 4)) (s t : State) : Prop where
  lock : ∀ r : Fin 4, t.locks[r] = if r ∈ held then none else s.locks[r]
  port : ∀ q, t.port q =
    { s.port q with recheck := (s.port q).recheck || ((s.port q).head.waiting && !held.isEmpty) }
  frame : ∃ ports flt locks faults alert,
    t = { s with ports := ports, fltLow := flt, locks := locks, faultList := faults, alert := alert }
  faults : s.faultList.policy = .keepOldest → s.faultList.records.length + held.length ≤ 32 →
    t.faultList.policy = .keepOldest ∧ t.faultList.nextSeq = s.faultList.nextSeq + BitVec.ofNat 16 held.length ∧
      t.faultList.records = s.faultList.records ++
        held.mapIdx fun k r => brokenFault x cause.code s (s.faultList.nextSeq + BitVec.ofNat 16 k) r

theorem LocksBroken.none (x : Port) (cause : BreakCause) (s : State) : LocksBroken x cause [] s s where
  lock r := by simp
  port q := by simp
  frame := ⟨_, _, _, _, _, rfl⟩
  faults hp _ := by simp [hp]

/-- A state is the other one with the blocks named here exchanged. -/
theorem State.eq_of_blocks {s t : State} (h1 : t.pending = s.pending) (h2 : t.resetLow = s.resetLow)
    (h3 : t.time = s.time) (h4 : t.node = s.node) (h5 : t.nodeTable = s.nodeTable) (h6 : t.mPointer = s.mPointer)
    (h7 : t.windows = s.windows) (h8 : t.manager = s.manager) (h9 : t.settings = s.settings)
    (h10 : t.freeUsed = s.freeUsed) :
    t = { s with ports := t.ports, fltLow := t.fltLow, track := t.track, locks := t.locks, mgmt := t.mgmt,
                 actions := t.actions, faultList := t.faultList, alert := t.alert } := by
  cases s
  cases t
  simp only at h1 h2 h3 h4 h5 h6 h7 h8 h9 h10
  subst h1 h2 h3 h4 h5 h6 h7 h8 h9 h10
  rfl

theorem keepRecord_keepOldest_room {s : State} (r : FaultReport) (hp : s.faultList.policy = .keepOldest)
    (h : s.faultList.records.length < 32) :
    (raiseFault r s).faultList =
      { records := s.faultList.records ++ [⟨s.faultList.nextSeq, s.time, r⟩]
        nextSeq := s.faultList.nextSeq + 1#16, policy := .keepOldest } := by
  rw [raiseFault_faultList, keepRecord_room h, hp]

theorem locksBroken_breakRecord {x : Port} (cause : BreakCause) {r : Fin 4} {s : State} {l : Lock}
    (hl : s.locks[r] = some l) (hx : l.holder = x) : LocksBroken x cause [r] s (breakRecord cause r s) := by
  have he : breakRecord cause r s = markForLocks (raiseFault (brokenReport l cause) (setLock r Option.none s)) := by
    unfold breakRecord
    rw [hl]
  rw [he]
  refine ⟨fun j => ?_, fun q => ?_, ?_, fun hp hlen => ?_⟩
  · rw [markForLocks_locks, raiseFault_locks]
    by_cases hj : j = r
    · subst hj
      rw [setLock_self, if_pos (List.mem_singleton.2 rfl)]
    · rw [setLock_of_ne _ _ hj, if_neg (by simpa using hj)]
  · rw [markForLocks, markHeads_port, raiseFault_port, setLock_port]
    cases hw : (s.port q).head.waiting <;> simp
  · generalize ht : markForLocks (raiseFault (brokenReport l cause) (setLock r Option.none s)) = t
    refine ⟨t.ports, t.fltLow, t.locks, t.faultList, t.alert, ?_⟩
    have h := State.eq_of_blocks (s := s) (t := t) (by simp [← ht]) (by simp [← ht]) (by simp [← ht]) (by simp [← ht])
      (by simp [← ht]) (by simp [← ht]) (by simp [← ht]) (by simp [← ht]) (by simp [← ht]) (by simp [← ht])
    rw [show t.track = s.track by simp [← ht], show t.mgmt = s.mgmt by simp [← ht],
      show t.actions = s.actions by simp [← ht]] at h
    exact h
  · rw [markForLocks_faultList, keepRecord_keepOldest_room _ (by exact hp) (by exact Nat.lt_of_succ_le hlen)]
    subst hx
    have hi : s.locks[r].map (fun l => BitVec.ofNat 6 l.window.val) = some (BitVec.ofNat 6 l.window.val) := by
      rw [hl]; rfl
    refine ⟨rfl, rfl, ?_⟩
    simp only [List.mapIdx_cons, List.mapIdx_nil, brokenFault, hi]
    simp [brokenReport]

/-- One break more, in front of others. -/
theorem LocksBroken.cons {x : Port} {cause : BreakCause} {r : Fin 4} {held : List (Fin 4)} {s u t : State}
    (h : LocksBroken x cause [r] s u) (k : LocksBroken x cause held u t) (hr : r ∉ held) :
    LocksBroken x cause (r :: held) s t := by
  have same : ∀ j ∈ held, u.locks[j] = s.locks[j] := fun j hj => by
    rw [h.lock j, if_neg]
    rintro hm
    exact hr (List.mem_singleton.1 hm ▸ hj)
  obtain ⟨p1, f1, l1, q1, a1, hu⟩ := h.frame
  obtain ⟨p2, f2, l2, q2, a2, ht⟩ := k.frame
  refine ⟨fun j => ?_, fun q => ?_, ⟨p2, f2, l2, q2, a2, by rw [ht, hu]⟩, fun hp hlen => ?_⟩
  · rw [k.lock j, h.lock j]
    by_cases hj : j = r
    · simp [hj]
    · simp [hj]
  · rw [k.port q, h.port q]
    cases hh : (s.port q).head.waiting <;> simp
  · obtain ⟨hp1, hn1, hr1⟩ := h.faults hp (by simp only [List.length_cons, List.length_nil] at hlen ⊢; omega)
    have hl1 : u.faultList.records.length = s.faultList.records.length + 1 := by rw [hr1]; simp
    obtain ⟨hp2, hn2, hr2⟩ := k.faults hp1 (by rw [hl1]; simp only [List.length_cons] at hlen; omega)
    have ht1 : u.time = s.time := by rw [hu]
    have hseq : ∀ n : Nat, u.faultList.nextSeq + BitVec.ofNat 16 n = s.faultList.nextSeq + BitVec.ofNat 16 (n + 1) := by
      intro n
      rw [hn1, BitVec.add_assoc, ← BitVec.ofNat_add, Nat.add_comm]
      rfl
    refine ⟨hp2, ?_, ?_⟩
    · rw [hn2, hseq]; rfl
    · rw [hr2, hr1, List.append_assoc]
      simp only [List.mapIdx_cons, List.mapIdx_nil, List.cons_append, List.nil_append]
      refine congrArg _ (congrArg (List.cons _) (List.ext_getElem (by simp) fun n h1 h2 => ?_))
      have hm : held[n]'(by simpa using h1) ∈ held := List.getElem_mem _
      simp only [List.getElem_mapIdx, brokenFault, hseq, ht1, same _ hm]

theorem locksBroken_foldl (x : Port) (cause : BreakCause) (rs : List (Fin 4)) (hn : rs.Nodup) (s : State) :
    LocksBroken x cause (heldAmong x rs s) s (rs.foldl (breakIfHeldBy x cause) s) := by
  induction rs generalizing s with
  | nil => exact .none x cause s
  | cons r rest ih =>
    rw [List.nodup_cons] at hn
    rw [List.foldl_cons]
    by_cases hr : ∃ l, s.locks[r] = some l ∧ l.holder = x
    · obtain ⟨l, hl, hx⟩ := hr
      have hb : breakIfHeldBy x cause s r = breakRecord cause r s := by
        unfold breakIfHeldBy
        rw [hl]
        exact if_pos hx
      have h := locksBroken_breakRecord cause hl hx
      have hh : heldAmong x (r :: rest) s = r :: heldAmong x rest s := by
        unfold heldAmong
        rw [List.filter_cons_of_pos (by rw [hl]; simpa using hx)]
      have hc : heldAmong x rest (breakRecord cause r s) = heldAmong x rest s :=
        heldAmong_congr fun j hj => by
          rw [h.lock j, if_neg (by simp only [List.mem_singleton]; rintro rfl; exact hn.1 hj)]
      rw [hb, hh, ← hc]
      exact h.cons (ih hn.2 _) fun hm => hn.1 (mem_heldAmong.1 hm).1
    · have hb : breakIfHeldBy x cause s r = s := by
        unfold breakIfHeldBy
        split
        · rfl
        · next l hl => exact if_neg fun hx => hr ⟨l, hl, hx⟩
      have hh : heldAmong x (r :: rest) s = heldAmong x rest s := by
        unfold heldAmong
        rw [List.filter_cons_of_neg]
        simpa [Option.any_eq_true] using fun l hl hx => hr ⟨l, hl, hx⟩
      rw [hb, hh]
      exact ih hn.2 s

/-- The records that `x` holds, lowest first. -/
def locksHeldBy (x : Port) (s : State) : List (Fin 4) := heldAmong x [0, 1, 2, 3] s

theorem mem_locksHeldBy {x : Port} {s : State} {r : Fin 4} : r ∈ locksHeldBy x s ↔ ∃ l, s.locks[r] = some l ∧ l.holder = x := by
  have h : r ∈ ([0, 1, 2, 3] : List (Fin 4)) := by revert r; decide
  simp only [locksHeldBy, mem_heldAmong, h, true_and]

theorem locksHeldBy_pairwise (x : Port) (s : State) : (locksHeldBy x s).Pairwise (· < ·) :=
  List.Pairwise.filter _ (by decide)

theorem locksHeldBy_length (x : Port) (s : State) : (locksHeldBy x s).length ≤ 4 := List.length_filter_le _ _

theorem locksHeldBy_congr {x : Port} {s t : State} (h : t.locks = s.locks) : locksHeldBy x t = locksHeldBy x s :=
  heldAmong_congr fun r _ => by rw [h]

theorem locksHeldBy_nonempty_iff (x : Port) (s : State) : (locksHeldBy x s).isEmpty = false ↔ HoldsLock x s := by
  rw [List.isEmpty_eq_false_iff_exists_mem]
  exact exists_congr fun r => mem_locksHeldBy

/-- Every lock that `x` holds is broken, lowest record first (R115, R116, R117). -/
theorem locksBroken_breakHeldBy (x : Port) (cause : BreakCause) (s : State) :
    LocksBroken x cause (locksHeldBy x s) s (breakHeldBy x cause s) :=
  locksBroken_foldl x cause _ (by decide) s

theorem LocksBroken.locksFreed {x : Port} {cause : BreakCause} {s t : State}
    (h : LocksBroken x cause (locksHeldBy x s) s t) : LocksFreed x s t := fun r =>
  ⟨fun hr => by rw [h.lock r, if_pos (mem_locksHeldBy.2 hr)],
   fun hr => by rw [h.lock r, if_neg fun hm => let ⟨l, hl, hx⟩ := mem_locksHeldBy.1 hm; hr l hl hx]⟩

theorem brokenLockFaults_locksHeldBy (x : Port) (detail : Byte) (seq : BitVec 16) (s : State) :
    BrokenLockFaults x detail seq s
      ((locksHeldBy x s).mapIdx fun k r => brokenFault x detail s (seq + BitVec.ofNat 16 k) r) :=
  ⟨locksHeldBy x s, locksHeldBy_pairwise x s, fun _ => mem_locksHeldBy, rfl⟩

theorem headWaits_iff (r : PortRec) : HeadWaits r ↔ r.head.waiting = true := by
  unfold HeadWaits HeadState.waiting
  cases r.head <;> simp

/-- The mark of a head after a break is the old one, or that it waits and a lock was broken (R66, R115). -/
theorem breakHeldBy_port (x : Port) (cause : BreakCause) (s : State) (q : Port) :
    ∃ mark, (breakHeldBy x cause s).port q = { s.port q with recheck := mark } ∧
      (mark = true ↔ (s.port q).recheck = true ∨ (HoldsLock x s ∧ HeadWaits (s.port q))) := by
  refine ⟨_, (locksBroken_breakHeldBy x cause s).port q, ?_⟩
  rw [headWaits_iff, ← locksHeldBy_nonempty_iff]
  simp [and_comm]

/-! ### The fence -/

/-- The fenced flag set on a port where it was clear: the marks, the locks, and what else may change (R66, R117). -/
theorem setFence_clear {p : Port} {s : State} (h : (s.port p).fenced = false) :
    setFence p s = markHeads (fun q _ => q == p)
      (breakHeldBy p .fence (s.modifyPort p fun r => { r with fenced := true })) := by
  unfold setFence
  rw [h]
  rfl

theorem setFence_set {p : Port} {s : State} (h : (s.port p).fenced = true) : setFence p s = s := by
  unfold setFence
  rw [if_pos h]

end Sys2Proof.Machine
end

section
/-! CERTIFICATE. The directives of one port that act at once: PORT_ENABLE, FENCE and UNFENCE. -/

namespace Sys2Proof.Machine

open Sys2Proof

/-- A modifying command with one argument, a port, that answers OK at once. -/
theorem executeCommand_port {c : Command} {d : Directive} {s : State} {p : Port} {w : Word} {effect : Port → State → State}
    (h : Accepted c d s) (hc : c.readOnly = false) (ha : d.args = [w]) (hw : w.toNat = p.val) :
    executeCommand c (portArg fun p s => okDone (effect p s)) s =
      .next (settle (withReply d .ok [] (effect p (claimedBy d s)))) := by
  have he : portArg (fun p s => okDone (effect p s)) d.args s = some fun u => okDone (effect p u) := by
    simp [portArg, ha, portOfNat_val hw]
  rw [executeCommand_modifying h hc he]
  exact congrArg (fun u => Host.Outcome.next (settle u)) deliver_reply

theorem enablePort_active {q : Port} {s : State} (h : (s.port q).link = .training ∨ (s.port q).link = .up) :
    enablePort q s = s := by
  unfold enablePort
  rcases h with h | h <;> rw [h]

theorem enablePort_inactive {q : Port} {s : State} (h : (s.port q).link = .off ∨ (s.port q).link = .halted)
    (ht : (s.port q).tx = none) :
    enablePort q s = s.modifyPort q fun r =>
      { r with link := .training, attempts := 0, heard := false, seen := false, helloTimer := some 10,
               attemptTimer := some 200, tx := some ⟨.hello s.node 12#8 8#8 false, false⟩ } := by
  have he : enablePort q s = enterTraining q s := by
    unfold enablePort
    rcases h with h | h <;> rw [h]
  rw [he, enterTraining_eq]
  exact State.modifyPort_congr (by simp [PortRec.trained, ht])

/-- The marks that a FENCE leaves: its own waiting head, and every waiting head when it broke a lock (R66, R117). -/
theorem setFence_recheck (p q : Port) (s : State) :
    ((markHeads (fun q _ => q == p)
      (breakHeldBy p .fence (s.modifyPort p fun r => { r with fenced := true }))).port q).recheck = true ↔
      (s.port q).recheck = true ∨ (HeadWaits (s.port q) ∧ (q = p ∨ HoldsLock p s)) := by
  generalize hu : (s.modifyPort p fun r => { r with fenced := true }) = u
  have hh : (u.port q).head = (s.port q).head ∧ (u.port q).recheck = (s.port q).recheck := by
    rw [← hu, State.port_modifyPort]
    split <;> simp
  have hw : HeadWaits (u.port q) ↔ HeadWaits (s.port q) := by rw [headWaits_iff, headWaits_iff, hh.1]
  have hl : HoldsLock p u ↔ HoldsLock p s := by rw [← hu]; exact Iff.rfl
  obtain ⟨mark, hp, hm⟩ := breakHeldBy_port p .fence u q
  rw [hw, hl, hh.2, headWaits_iff] at hm
  rw [markHeads_port, hp, hh.1, headWaits_iff]
  by_cases hq : q = p
  · subst hq
    cases hc : (s.port q).head.waiting <;> simp [hm, hc]
  · rw [if_neg (by simp [hq]), hm]
    exact or_congr_right ⟨fun ⟨hl, hc⟩ => ⟨hc, .inr hl⟩, fun ⟨hc, hl⟩ => ⟨hl.resolve_left hq, hc⟩⟩

/-- Settles O42: PORT_ENABLE and UNFENCE by their one change, FENCE by the break of its locks. -/
theorem portDirectivesActAtOnce : Obligations.PortDirectivesActAtOnce := by
  intro p w d s ha hw
  refine ⟨fun h => ⟨fun hl => ?_, fun hl ht => ?_⟩, fun h => ⟨fun hf => ?_, fun hf => ⟨_, rfl, ?_, ?_, ?_, ?_⟩⟩, fun h => ?_⟩
  · show executeCommand _ _ _ = _
    rw [executeCommand_port h rfl ha hw, enablePort_active (s := claimedBy d s) hl]
  · show executeCommand _ _ _ = _
    rw [executeCommand_port h rfl ha hw, enablePort_inactive (s := claimedBy d s) hl ht]
    rfl
  · show executeCommand _ _ _ = _
    rw [executeCommand_port h rfl ha hw, setFence_set (s := claimedBy d s) hf]
  · show executeCommand _ _ _ = _
    rw [executeCommand_port h rfl ha hw, setFence_clear (s := claimedBy d s) hf]
  · obtain ⟨mark, hp, -⟩ := breakHeldBy_port p .fence ((claimedBy d s).modifyPort p fun r => { r with fenced := true }) p
    rw [markHeads_port, hp]
    split <;> simp
  · intro r
    rw [markHeads_locks]
    exact (locksBroken_breakHeldBy p .fence
      ((claimedBy d s).modifyPort p fun r => { r with fenced := true })).locksFreed r
  · exact fun q => setFence_recheck p q (claimedBy d s)
  · exact executeCommand_port (effect := clearFence) h rfl ha hw

end Sys2Proof.Machine
end

section
/-! SUPPORT. The notice of a link loss at the Tracking Table (R100 to R102): its cases at one entry, said once, and what they
come to over the whole table. -/

namespace Sys2Proof.Machine

open Sys2Proof

/-! ### One entry -/

/-- What the loss of `x` may do at entry `i` (R85, R99 to R102). -/
inductive NoticeAt (x : Port) (i : Fin 64) (s : State) : State → Prop where
  | free : s.track[i] = none → NoticeAt x i s s
  | kept (e : TrackEntry) : s.track[i] = some e →
      (e.origin ≠ x ∧ e.dest ≠ x) ∨ e.state = .tombstone ∨ (e.origin = x ∧ e.state = .orphaned) ∨
        (e.origin ≠ x ∧ ∃ st, e.state = .replyDue st) → NoticeAt x i s s
  | orphaned (e : TrackEntry) : s.track[i] = some e → e.origin = x → e.dest ≠ x → e.state = .active false →
      NoticeAt x i s (setEntry i (some { e with state := .orphaned }) s)
  | discarded (e : TrackEntry) : s.track[i] = some e → e.origin = x → e.dest ≠ x → e.state = .active true →
      NoticeAt x i s (popReply e.dest (setEntry i none s))
  | entombed (e : TrackEntry) : s.track[i] = some e →
      (e.origin = x ∧ ∃ st, e.state = .replyDue st) ∨ (e.origin ≠ x ∧ e.dest = x ∧ e.state = .orphaned) ∨
        (e.origin = x ∧ e.dest = x ∧ ∃ b, e.state = .active b) → NoticeAt x i s (toTombstone i e s)
  | answered (e : TrackEntry) : s.track[i] = some e → e.origin ≠ x → e.dest = x → (∃ b, e.state = .active b) →
      NoticeAt x i s (placeSynth i e .linkLost s)

theorem noticeAt_lossAtEntry (x : Port) (i : Fin 64) (s : State) : NoticeAt x i s (lossAtEntry x s i) := by
  unfold lossAtEntry
  split
  · next h => exact .free h
  · next e h =>
    split
    · next ho =>
      split
      · next hd =>
        unfold hairpinLost
        split
        · next b hs => exact .entombed e h (.inr (.inr ⟨ho, hd, b, hs⟩))
        · next st hs => exact .entombed e h (.inl ⟨ho, st, hs⟩)
        · next h1 h2 =>
          cases hs : e.state with
          | active b => exact absurd hs (h1 b)
          | replyDue st => exact absurd hs (h2 st)
          | orphaned => exact .kept e h (.inr (.inr (.inl ⟨ho, hs⟩)))
          | tombstone => exact .kept e h (.inr (.inl hs))
      · next hd =>
        unfold originLost
        split
        · next hs => exact .orphaned e h ho hd hs
        · next hs => exact .discarded e h ho hd hs
        · next st hs => exact .entombed e h (.inl ⟨ho, st, hs⟩)
        · next h1 h2 h3 =>
          cases hs : e.state with
          | active b =>
            cases b with
            | false => exact absurd hs h1
            | true => exact absurd hs h2
          | replyDue st => exact absurd hs (h3 st)
          | orphaned => exact .kept e h (.inr (.inr (.inl ⟨ho, hs⟩)))
          | tombstone => exact .kept e h (.inr (.inl hs))
    · next ho =>
      split
      · next hd =>
        unfold destinationLost
        split
        · next b hs => exact .answered e h ho hd ⟨b, hs⟩
        · next hs => exact .entombed e h (.inr (.inl ⟨ho, hd, hs⟩))
        · next h1 h2 =>
          cases hs : e.state with
          | active b => exact absurd hs (h1 b)
          | replyDue st => exact .kept e h (.inr (.inr (.inr ⟨ho, st, hs⟩)))
          | orphaned => exact absurd hs h2
          | tombstone => exact .kept e h (.inr (.inl hs))
      · next hd => exact .kept e h (.inl ⟨ho, hd⟩)

/-- The three outcomes of a synthesized answer (R83, R96, R101; log entry 19). -/
theorem placeSynth_up {i : Fin 64} {e : TrackEntry} (st : OwedStatus) {s : State}
    (hq : (s.port e.origin).replyQueue.length < 8) (hu : (s.port e.origin).link = .up) :
    placeSynth i e st s = toTombstone i e (enqueueReply e.origin ⟨synthReply e st, false⟩ s) := by
  unfold placeSynth
  exact (if_pos hq).trans (if_pos ((isUp_iff s _).2 hu))

theorem placeSynth_down {i : Fin 64} {e : TrackEntry} (st : OwedStatus) {s : State}
    (hq : (s.port e.origin).replyQueue.length < 8) (hu : (s.port e.origin).link ≠ .up) :
    placeSynth i e st s = toTombstone i e s := by
  unfold placeSynth
  exact (if_pos hq).trans (if_neg fun h => hu ((isUp_iff s _).1 h))

theorem placeSynth_full {i : Fin 64} {e : TrackEntry} (st : OwedStatus) {s : State}
    (hq : 8 ≤ (s.port e.origin).replyQueue.length) :
    placeSynth i e st s = setEntry i (some { e with state := .replyDue st, time := 0 }) s :=
  if_neg (Nat.not_lt.2 hq)

/-- An answered entry is TOMBSTONE, or owes its answer; its origin's queue alone changes otherwise (R101). -/
theorem placeSynth_cases (i : Fin 64) (e : TrackEntry) (st : OwedStatus) (s : State) :
    placeSynth i e st s = toTombstone i e (enqueueReply e.origin ⟨synthReply e st, false⟩ s) ∨
      ∃ v, placeSynth i e st s = setEntry i (some v) s ∧ v.origin = e.origin ∧ v.dest = e.dest ∧
        (v = e.entombed s ∨ v = { e with state := .replyDue st, time := 0 }) := by
  by_cases hq : (s.port e.origin).replyQueue.length < 8
  · by_cases hu : (s.port e.origin).link = .up
    · exact .inl (placeSynth_up st hq hu)
    · exact .inr ⟨_, placeSynth_down st hq hu, rfl, rfl, .inl rfl⟩
  · exact .inr ⟨_, placeSynth_full st (Nat.not_lt.1 hq), rfl, rfl, .inr rfl⟩

/-- What the notice at one entry may change: the entry, and of other ports the reply lane with its credits and the Reply
Queue. -/
structure NoticeFrame (x : Port) (s t : State) : Prop where
  blocks : ∃ ports track, t = { s with ports := ports, track := track }
  own : t.port x = s.port x
  other : ∀ q, ∃ lane owed queue, t.port q = { s.port q with repLane := lane, owed := owed, replyQueue := queue }

theorem NoticeFrame.refl (x : Port) (s : State) : NoticeFrame x s s :=
  ⟨⟨_, _, rfl⟩, rfl, fun _ => ⟨_, _, _, rfl⟩⟩

theorem NoticeFrame.trans {x : Port} {s t u : State} (h : NoticeFrame x s t) (k : NoticeFrame x t u) :
    NoticeFrame x s u := by
  obtain ⟨p1, t1, h1⟩ := h.blocks
  obtain ⟨p2, t2, h2⟩ := k.blocks
  refine ⟨⟨p2, t2, by rw [h2, h1]⟩, k.own.trans h.own, fun q => ?_⟩
  obtain ⟨l1, o1, q1, e1⟩ := h.other q
  obtain ⟨l2, o2, q2, e2⟩ := k.other q
  exact ⟨l2, o2, q2, by rw [e2, e1]⟩

theorem noticeFrame_setEntry (x : Port) (i : Fin 64) (v : Option TrackEntry) (s : State) :
    NoticeFrame x s (setEntry i v s) :=
  ⟨⟨_, _, rfl⟩, rfl, fun _ => ⟨_, _, _, rfl⟩⟩

theorem noticeFrame_modifyPort {x q : Port} {f : PortRec → PortRec} {s : State} (hq : q ≠ x)
    (h : ∀ r, ∃ lane owed queue, f r = { r with repLane := lane, owed := owed, replyQueue := queue }) :
    NoticeFrame x s (s.modifyPort q f) := by
  refine ⟨⟨_, s.track, rfl⟩, State.port_modifyPort_of_ne s f hq.symm, fun p => ?_⟩
  rw [State.port_modifyPort]
  split
  · exact h _
  · exact ⟨_, _, _, rfl⟩

theorem noticeFrame_popReply {x q : Port} {s : State} (hq : q ≠ x) : NoticeFrame x s (popReply q s) :=
  noticeFrame_modifyPort hq fun r => by
    cases r.repLane with
    | nil => exact ⟨_, _, _, rfl⟩
    | cons a rest => exact ⟨_, _, _, rfl⟩

theorem noticeFrame_enqueueReply {x q : Port} {r : QueuedReply} {s : State} (hq : q ≠ x) :
    NoticeFrame x s (enqueueReply q r s) :=
  noticeFrame_modifyPort hq fun _ => ⟨_, _, _, rfl⟩

theorem noticeFrame_lossAtEntry (x : Port) (s : State) (i : Fin 64) : NoticeFrame x s (lossAtEntry x s i) := by
  have notice := noticeAt_lossAtEntry x i s
  generalize lossAtEntry x s i = t at notice ⊢
  cases notice with
  | free _ => exact .refl x s
  | kept _ _ _ => exact .refl x s
  | orphaned e _ _ _ _ => exact noticeFrame_setEntry x i _ s
  | discarded e _ _ hd _ => exact (noticeFrame_setEntry x i none s).trans (noticeFrame_popReply hd)
  | entombed e _ _ => exact noticeFrame_setEntry x i _ s
  | answered e _ ho _ _ =>
    rcases placeSynth_cases i e .linkLost s with h | ⟨v, h, -⟩
    · rw [h]
      exact (noticeFrame_enqueueReply ho).trans (noticeFrame_setEntry x i _ _)
    · rw [h]
      exact noticeFrame_setEntry x i _ s

/-- The notice at one entry leaves the other entries. -/
theorem lossAtEntry_track_of_ne (x : Port) {i j : Fin 64} (s : State) (h : j ≠ i) :
    (lossAtEntry x s i).track[j] = s.track[j] := by
  have notice := noticeAt_lossAtEntry x i s
  generalize lossAtEntry x s i = t at notice ⊢
  cases notice with
  | free _ => rfl
  | kept _ _ _ => rfl
  | orphaned e _ _ _ _ => exact setEntry_of_ne s _ h
  | discarded e _ _ _ _ => rw [popReply_track]; exact setEntry_of_ne s _ h
  | entombed e _ _ => exact setEntry_of_ne s _ h
  | answered e _ _ _ _ =>
    rcases placeSynth_cases i e .linkLost s with k | ⟨v, k, -⟩ <;> rw [k]
    · exact setEntry_of_ne _ _ h
    · exact setEntry_of_ne s _ h

/-! ### The whole table -/

/-- The notice at the entries of a list, in order. -/
def lossAtEntries (x : Port) (l : List (Fin 64)) (s : State) : State := l.foldl (lossAtEntry x) s

theorem lossAtTracking_eq (x : Port) (s : State) : lossAtTracking x s = lossAtEntries x (List.finRange 64) s := rfl

theorem lossAtEntries_cons (x : Port) (i : Fin 64) (l : List (Fin 64)) (s : State) :
    lossAtEntries x (i :: l) s = lossAtEntries x l (lossAtEntry x s i) := rfl

theorem noticeFrame_lossAtEntries (x : Port) (l : List (Fin 64)) (s : State) : NoticeFrame x s (lossAtEntries x l s) :=
  List.foldlRecOn _ _ (.refl x s) fun u hu i _ => hu.trans (noticeFrame_lossAtEntry x u i)

theorem lossAtEntries_track_of_notMem (x : Port) {l : List (Fin 64)} {i : Fin 64} (h : i ∉ l) (s : State) :
    (lossAtEntries x l s).track[i] = s.track[i] := by
  induction l generalizing s with
  | nil => rfl
  | cons j l ih =>
    rw [List.mem_cons, not_or] at h
    rw [lossAtEntries_cons, ih h.2, lossAtEntry_track_of_ne x s h.1]

/-- An entry ends as its own notice leaves it, taken where the entry and the settings are still those before the loss. -/
theorem lossAtEntries_track_of_mem (x : Port) {l : List (Fin 64)} {i : Fin 64} (hn : l.Nodup) (h : i ∈ l) (s : State) :
    ∃ u, NoticeFrame x s u ∧ u.track[i] = s.track[i] ∧
      (lossAtEntries x l s).track[i] = (lossAtEntry x u i).track[i] := by
  induction l generalizing s with
  | nil => exact absurd h List.not_mem_nil
  | cons j l ih =>
    rw [List.nodup_cons] at hn
    by_cases hj : i = j
    · subst hj
      exact ⟨s, .refl x s, rfl, by rw [lossAtEntries_cons, lossAtEntries_track_of_notMem x hn.1]⟩
    · obtain ⟨u, hf, ht, he⟩ := ih hn.2 ((List.mem_cons.1 h).resolve_left hj) (lossAtEntry x s j)
      exact ⟨u, (noticeFrame_lossAtEntry x s j).trans hf, ht.trans (lossAtEntry_track_of_ne x s hj), he⟩

theorem lossAtTracking_track (x : Port) (s : State) (i : Fin 64) :
    ∃ u, NoticeFrame x s u ∧ u.track[i] = s.track[i] ∧ (lossAtTracking x s).track[i] = (lossAtEntry x u i).track[i] :=
  lossAtEntries_track_of_mem x (List.nodup_finRange 64) (List.mem_finRange i) s

/-- The end of an entry after a loss, by its notice (R99 to R102). -/
theorem entriesAfterLoss_lossAtTracking (x : Port) (s : State) : EntriesAfterLoss x s (lossAtTracking x s) := by
  refine ⟨fun i hi => ?_, fun i e hi => ?_⟩
  · obtain ⟨u, -, hu, ht⟩ := lossAtTracking_track x s i
    rw [ht, ← hi, ← hu]
    have hn : lossAtEntry x u i = u := by
      unfold lossAtEntry
      rw [hu, hi]
    rw [hn]
  · obtain ⟨u, hf, hu, ht⟩ := lossAtTracking_track x s i
    obtain ⟨p, tr, hu'⟩ := hf.blocks
    have hset : u.settings = s.settings := by rw [hu']
    rw [hi] at hu
    rw [ht]
    have notice := noticeAt_lossAtEntry x i u
    generalize lossAtEntry x u i = v at notice
    have same : ∀ {f : TrackEntry}, u.track[i] = some f → f = e := fun hf => Option.some.inj (hf.symm.trans hu)
    cases notice with
    | free h => exact absurd (h.symm.trans hu) (by simp)
    | kept f h hc =>
      obtain rfl := same h
      refine ⟨fun _ _ => hu, fun _ => hu, fun ho hd => ?_, fun ho hd => ?_, fun ho hd => ?_⟩
      all_goals rcases hc with ⟨h1, h2⟩ | h1 | ⟨h1, h2⟩ | ⟨h1, st, h2⟩ <;> simp_all
    | orphaned f h ho hd hs =>
      obtain rfl := same h
      rw [setEntry_self]
      simp [ho, hd, hs]
    | discarded f h ho hd hs =>
      obtain rfl := same h
      rw [popReply_track, setEntry_self]
      simp [ho, hd, hs]
    | entombed f h hc =>
      obtain rfl := same h
      rw [toTombstone, setEntry_self, hset]
      rcases hc with ⟨ho, st, hs⟩ | ⟨ho, hd, hs⟩ | ⟨ho, hd, b, hs⟩
      · simp [ho, hs, TrackEntry.entombed]
      · simp [ho, hd, hs, TrackEntry.entombed]
      · simp [ho, hd, hs, TrackEntry.entombed]
    | answered f h ho hd hs =>
      obtain rfl := same h
      obtain ⟨b, hs⟩ := hs
      simp [ho, hd, hs]

/-! ### Replies in hand -/

/-- The reply lane of `q` moves at an entry only when a reply in hand there is for `x` (R85, R100). -/
theorem lossAtEntry_lane_kept {x q : Port} {i : Fin 64} {s : State} (h : ¬ InHandFor x q i s) :
    ((lossAtEntry x s i).port q).repLane = (s.port q).repLane ∧ ((lossAtEntry x s i).port q).owed = (s.port q).owed := by
  have notice := noticeAt_lossAtEntry x i s
  generalize lossAtEntry x s i = t at notice ⊢
  cases notice with
  | free _ => exact ⟨rfl, rfl⟩
  | kept _ _ _ => exact ⟨rfl, rfl⟩
  | orphaned e _ _ _ _ => exact ⟨rfl, rfl⟩
  | discarded e he ho _ hs =>
    have hq : q ≠ e.dest := fun hq => h ⟨e, he, hs, ho, hq.symm⟩
    rw [popReply_port_of_ne hq]
    exact ⟨rfl, rfl⟩
  | entombed e _ _ => exact ⟨rfl, rfl⟩
  | answered e _ _ _ _ =>
    rcases placeSynth_cases i e .linkLost s with k | ⟨v, k, -⟩ <;> rw [k]
    · show ((enqueueReply _ _ s).port q).repLane = _ ∧ ((enqueueReply _ _ s).port q).owed = _
      rw [enqueueReply, State.port_modifyPort]
      split <;> exact ⟨rfl, rfl⟩
    · exact ⟨rfl, rfl⟩

theorem lossAtEntry_lane_popped {x q : Port} {i : Fin 64} {s : State} (hq : q ≠ x) (h : InHandFor x q i s) :
    lossAtEntry x s i = popReply q (setEntry i none s) := by
  obtain ⟨e, he, hs, ho, hd⟩ := h
  unfold lossAtEntry
  rw [he]
  show (if e.origin = x then _ else _) = _
  rw [if_pos ho, if_neg (by rw [hd]; exact hq), originLost, hs, hd]

theorem inHandFor_congr {x q : Port} {i : Fin 64} {s t : State} (h : t.track[i] = s.track[i]) :
    InHandFor x q i t ↔ InHandFor x q i s := by
  unfold InHandFor
  rw [h]

theorem lossAtEntries_lane_kept {x q : Port} {l : List (Fin 64)} (hn : l.Nodup) {s : State}
    (h : ∀ j ∈ l, ¬ InHandFor x q j s) :
    ((lossAtEntries x l s).port q).repLane = (s.port q).repLane ∧
      ((lossAtEntries x l s).port q).owed = (s.port q).owed := by
  induction l generalizing s with
  | nil => exact ⟨rfl, rfl⟩
  | cons i l ih =>
    rw [List.nodup_cons] at hn
    obtain ⟨h1, h2⟩ := lossAtEntry_lane_kept (h i List.mem_cons_self)
    obtain ⟨k1, k2⟩ := ih hn.2 (s := lossAtEntry x s i) fun j hj hin => by
      have hji : j ≠ i := fun e => hn.1 (e ▸ hj)
      exact h j (List.mem_cons_of_mem i hj) ((inHandFor_congr (lossAtEntry_track_of_ne x s hji)).1 hin)
    exact ⟨k1.trans h1, k2.trans h2⟩

/-- The one reply in hand for `x` leaves its lane (R85, R100). -/
theorem lossAtEntries_lane_popped {x q : Port} (hq : q ≠ x) {l : List (Fin 64)} (hn : l.Nodup) {s : State} {i : Fin 64}
    (hi : i ∈ l) (h : InHandFor x q i s) (only : ∀ j ∈ l, InHandFor x q j s → j = i) {r : Reply} {rest : List Reply}
    (hl : (s.port q).repLane = r :: rest) :
    ((lossAtEntries x l s).port q).repLane = rest ∧
      ((lossAtEntries x l s).port q).owed = ⟨(s.port q).owed.req, min ((s.port q).owed.rep + 1) 8⟩ := by
  induction l generalizing s with
  | nil => exact absurd hi List.not_mem_nil
  | cons j l ih =>
    rw [List.nodup_cons] at hn
    rw [lossAtEntries_cons]
    by_cases hj : i = j
    · subst hj
      obtain ⟨k1, k2⟩ := lossAtEntries_lane_kept (x := x) (q := q) hn.2 (s := lossAtEntry x s i) fun m hm hin => by
        have hmi : m ≠ i := fun e => hn.1 (e ▸ hm)
        exact hmi (only m (List.mem_cons_of_mem i hm) ((inHandFor_congr (lossAtEntry_track_of_ne x s hmi)).1 hin))
      have hp : (lossAtEntry x s i).port q =
          { s.port q with repLane := rest, owed := { (s.port q).owed with rep := min ((s.port q).owed.rep + 1) 8 } } := by
        rw [lossAtEntry_lane_popped hq h]
        exact popReply_port_cons (s := setEntry i none s) hl
      exact ⟨k1.trans (by rw [hp]), k2.trans (by rw [hp])⟩
    · have hnot : ¬ InHandFor x q j s := fun hin => hj (only j List.mem_cons_self hin).symm
      obtain ⟨h1, h2⟩ := lossAtEntry_lane_kept hnot
      have hin : InHandFor x q i (lossAtEntry x s j) := (inHandFor_congr (lossAtEntry_track_of_ne x s hj)).2 h
      rw [← h2]
      refine ih hn.2 ((List.mem_cons.1 hi).resolve_left hj) hin (fun m hm hmin => ?_) (h1.trans hl)
      have hmj : m ≠ j := fun e => hn.1 (e ▸ hm)
      exact only m (List.mem_cons_of_mem j hm) ((inHandFor_congr (lossAtEntry_track_of_ne x s hmj)).1 hmin)

/-! ### Answers LINK_LOST -/

/-- An ACTIVE entry of origin `q` and destination `x`. -/
def lostEntry (x q : Port) (e : TrackEntry) : Bool :=
  (e.state == .active false || e.state == .active true) && e.dest == x && e.origin == q

theorem lostEntry_iff (x q : Port) (e : TrackEntry) :
    lostEntry x q e = true ↔ (∃ b, e.state = .active b) ∧ e.dest = x ∧ e.origin = q := by
  have h : (∃ b, e.state = .active b) ↔ e.state = .active false ∨ e.state = .active true := by
    simp [Bool.exists_bool]
  simp [lostEntry, h, and_assoc]

/-- The entries among `l` that lose their destination `x` and answer to `q`, with their indices. -/
def lostAmong (x q : Port) (l : List (Fin 64)) (s : State) : List (Fin 64 × TrackEntry) :=
  l.filterMap fun i => (s.track[i]).bind fun e => if lostEntry x q e then some (i, e) else none

theorem mem_lostAmong {x q : Port} {l : List (Fin 64)} {s : State} {i : Fin 64} {e : TrackEntry} :
    (i, e) ∈ lostAmong x q l s ↔
      i ∈ l ∧ s.track[i] = some e ∧ (∃ b, e.state = .active b) ∧ e.dest = x ∧ e.origin = q := by
  simp only [lostAmong, List.mem_filterMap, Option.bind_eq_some_iff, Option.ite_none_right_eq_some, Option.some.injEq,
    Prod.mk.injEq, lostEntry_iff]
  constructor
  · rintro ⟨j, hj, f, hf, hc, rfl, rfl⟩
    exact ⟨hj, hf, hc⟩
  · rintro ⟨hi, he, hc⟩
    exact ⟨i, hi, e, he, hc, rfl, rfl⟩

theorem lostAmong_congr {x q : Port} {l : List (Fin 64)} {s t : State} (h : ∀ i ∈ l, t.track[i] = s.track[i]) :
    lostAmong x q l t = lostAmong x q l s :=
  List.filterMap_congr fun i hi => by rw [h i hi]

theorem lostAmong_cons_some {x q : Port} {i : Fin 64} {e : TrackEntry} {s : State} (l : List (Fin 64))
    (he : s.track[i] = some e) (hl : lostEntry x q e = true) :
    lostAmong x q (i :: l) s = (i, e) :: lostAmong x q l s := by
  unfold lostAmong
  rw [List.filterMap_cons_some]
  rw [he]
  exact if_pos hl

theorem lostAmong_cons_none {x q : Port} {i : Fin 64} {s : State} (l : List (Fin 64))
    (h : ∀ e, s.track[i] = some e → lostEntry x q e = false) :
    lostAmong x q (i :: l) s = lostAmong x q l s := by
  unfold lostAmong
  rw [List.filterMap_cons_none]
  cases he : s.track[i] with
  | none => rfl
  | some e => simp [h e he]

theorem popReply_replyQueue (p q : Port) (s : State) : ((popReply p s).port q).replyQueue = (s.port q).replyQueue := by
  rw [popReply, State.port_modifyPort]
  split
  · cases (s.port q).repLane <;> rfl
  · rfl

/-- The notice at an entry that does not answer to `q` leaves the Reply Queue of `q`. -/
theorem lossAtEntry_queue_kept {x q : Port} {i : Fin 64} {s : State}
    (h : ∀ e, s.track[i] = some e → lostEntry x q e = false) :
    ((lossAtEntry x s i).port q).replyQueue = (s.port q).replyQueue := by
  have notice := noticeAt_lossAtEntry x i s
  generalize lossAtEntry x s i = t at notice ⊢
  cases notice with
  | free _ => rfl
  | kept _ _ _ => rfl
  | orphaned e _ _ _ _ => rfl
  | discarded e _ _ _ _ => exact popReply_replyQueue _ q _
  | entombed e _ _ => rfl
  | answered e he _ hd hs =>
    have hq : q ≠ e.origin := fun hq => by
      have := h e he
      rw [(lostEntry_iff x q e).2 ⟨hs, hd, hq.symm⟩] at this
      cases this
    rcases placeSynth_cases i e .linkLost s with k | ⟨v, k, -⟩ <;> rw [k]
    · exact congrArg PortRec.replyQueue (enqueueReply_port_of_ne hq _ s)
    · rfl

theorem lossAtEntry_answers {x q : Port} (hq : q ≠ x) {i : Fin 64} {e : TrackEntry} {s : State}
    (he : s.track[i] = some e) (hl : lostEntry x q e = true) : lossAtEntry x s i = placeSynth i e .linkLost s := by
  obtain ⟨⟨b, hs⟩, hd, ho⟩ := (lostEntry_iff x q e).1 hl
  unfold lossAtEntry
  rw [he]
  show (if e.origin = x then _ else _) = _
  rw [if_neg (by rw [ho]; exact hq), if_pos hd, destinationLost, hs]

/-- The record of a LINK_LOST answer (R101). -/
def lossAnswer (a : Fin 64 × TrackEntry) : QueuedReply := ⟨synthReply a.2 .linkLost, false⟩

/-- The entries that answer to `q`: while its queue has room each answer joins it and the entry is TOMBSTONE, and the rest
owe theirs (R101). -/
theorem lossAtEntries_answers {x q : Port} (hq : q ≠ x) {l : List (Fin 64)} (hn : l.Nodup) {s : State}
    (hu : (s.port q).link = .up) :
    ((lossAtEntries x l s).port q).replyQueue = (s.port q).replyQueue ++
        ((lostAmong x q l s).take (8 - (s.port q).replyQueue.length)).map lossAnswer ∧
      (∀ a ∈ (lostAmong x q l s).take (8 - (s.port q).replyQueue.length),
        (lossAtEntries x l s).track[a.1] = some (a.2.entombed s)) ∧
      (∀ a ∈ (lostAmong x q l s).drop (8 - (s.port q).replyQueue.length),
        (lossAtEntries x l s).track[a.1] = some { a.2 with state := .replyDue .linkLost, time := 0 }) := by
  induction l generalizing s with
  | nil => exact ⟨by simp [lossAtEntries, lostAmong], by simp [lostAmong], by simp [lostAmong]⟩
  | cons i l ih =>
    rw [List.nodup_cons] at hn
    rw [lossAtEntries_cons]
    have hc : lostAmong x q l (lossAtEntry x s i) = lostAmong x q l s :=
      lostAmong_congr fun j hj => lossAtEntry_track_of_ne x s fun e => hn.1 (e ▸ hj)
    obtain ⟨lane, owed, queue, hp⟩ := (noticeFrame_lossAtEntry x s i).other q
    obtain ⟨p, tr, hb⟩ := (noticeFrame_lossAtEntry x s i).blocks
    have hset : (lossAtEntry x s i).settings = s.settings := by rw [hb]
    obtain ⟨h1, h2, h3⟩ := ih hn.2 (s := lossAtEntry x s i) (by rw [hp]; exact hu)
    have hent : ∀ e : TrackEntry, e.entombed (lossAtEntry x s i) = e.entombed s := fun e => by
      unfold TrackEntry.entombed
      rw [hset]
    simp only [hc, hent] at h1 h2 h3
    have hi : (lossAtEntries x l (lossAtEntry x s i)).track[i] = (lossAtEntry x s i).track[i] :=
      lossAtEntries_track_of_notMem x hn.1 _
    by_cases hl : ∃ e, s.track[i] = some e ∧ lostEntry x q e = true
    · obtain ⟨e, he, hle⟩ := hl
      have ho := ((lostEntry_iff x q e).1 hle).2.2
      rw [lostAmong_cons_some l he hle]
      by_cases hroom : (s.port q).replyQueue.length < 8
      · have hs : lossAtEntry x s i = toTombstone i e (enqueueReply q ⟨synthReply e .linkLost, false⟩ s) := by
          rw [lossAtEntry_answers hq he hle, placeSynth_up .linkLost (by rw [ho]; exact hroom) (by rw [ho]; exact hu), ho]
        have hq1 : ((lossAtEntry x s i).port q).replyQueue = (s.port q).replyQueue ++ [lossAnswer (i, e)] := by
          rw [hs]
          exact congrArg PortRec.replyQueue (enqueueReply_port_self q _ s)
        have ht1 : (lossAtEntry x s i).track[i] = some (e.entombed s) := by
          rw [hs]
          exact setEntry_self _ i _
        obtain ⟨k, hk⟩ : ∃ k, 8 - (s.port q).replyQueue.length = k + 1 := ⟨7 - (s.port q).replyQueue.length, by omega⟩
        have hk1 : 8 - ((lossAtEntry x s i).port q).replyQueue.length = k := by
          rw [hq1, List.length_append, List.length_singleton]
          omega
        rw [hk1] at h1 h2 h3
        rw [hk, List.take_succ_cons, List.drop_succ_cons]
        refine ⟨by rw [h1, hq1]; simp, fun a ha => ?_, h3⟩
        rcases List.mem_cons.1 ha with rfl | ha
        · exact hi.trans ht1
        · exact h2 a ha
      · have hs : lossAtEntry x s i = setEntry i (some { e with state := .replyDue .linkLost, time := 0 }) s := by
          rw [lossAtEntry_answers hq he hle, placeSynth_full .linkLost (by rw [ho]; exact Nat.not_lt.1 hroom)]
        have hq1 : ((lossAtEntry x s i).port q).replyQueue = (s.port q).replyQueue := by
          rw [hs]
          rfl
        have ht1 : (lossAtEntry x s i).track[i] = some { e with state := .replyDue .linkLost, time := 0 } := by
          rw [hs]
          exact setEntry_self s i _
        have hk : 8 - (s.port q).replyQueue.length = 0 := by omega
        rw [hq1, hk, List.take_zero] at h1 h2
        rw [hq1, hk, List.drop_zero] at h3
        rw [hk, List.take_zero, List.drop_zero]
        refine ⟨h1, by simp, fun a ha => ?_⟩
        rcases List.mem_cons.1 ha with rfl | ha
        · exact hi.trans ht1
        · exact h3 a ha
    · have hnone : ∀ e, s.track[i] = some e → lostEntry x q e = false := fun e he =>
        Bool.eq_false_of_not_eq_true fun h => hl ⟨e, he, h⟩
      rw [lostAmong_cons_none l hnone]
      rw [lossAtEntry_queue_kept hnone] at h1 h2 h3
      exact ⟨h1, h2, h3⟩

theorem lostAmong_pairwise (x q : Port) (s : State) :
    (lostAmong x q (List.finRange 64) s).Pairwise fun a b => a.1 < b.1 := by
  refine List.Pairwise.filterMap _ (fun i j hij a ha b hb => ?_) (List.pairwise_lt_finRange 64)
  obtain ⟨e, -, he⟩ := Option.bind_eq_some_iff.1 ha
  obtain ⟨f, -, hf⟩ := Option.bind_eq_some_iff.1 hb
  obtain ⟨-, he⟩ := Option.ite_none_right_eq_some.1 he
  obtain ⟨-, hf⟩ := Option.ite_none_right_eq_some.1 hf
  rw [← Option.some.inj he, ← Option.some.inj hf]
  exact hij

theorem answersAfterLoss_lossAtTracking {x q : Port} (hq : q ≠ x) {s : State} (hu : (s.port q).link = .up) :
    AnswersAfterLoss x q s (lossAtTracking x s) := by
  obtain ⟨h1, h2, h3⟩ := lossAtEntries_answers hq (List.nodup_finRange 64) hu
  refine ⟨lostAmong x q (List.finRange 64) s, _, rfl, lostAmong_pairwise x q s, fun i e => ?_, h1, h2, h3⟩
  rw [mem_lostAmong]
  exact and_iff_right (List.mem_finRange i)

theorem laneAfterLoss_lossAtTracking {x q : Port} (hq : q ≠ x) (s : State) :
    LaneAfterLoss x q s (lossAtTracking x s) :=
  ⟨fun h => lossAtEntries_lane_kept (List.nodup_finRange 64) fun j _ => h j,
   fun i _ _ h only hl =>
     lossAtEntries_lane_popped hq (List.nodup_finRange 64) (List.mem_finRange i) h (fun j _ hj => only j hj) hl⟩

end Sys2Proof.Machine
end

section
/-! SUPPORT. Link loss on one port: what it leaves of each block (R20 to R22), for every cause and in every state. -/

namespace Sys2Proof.Machine

open Sys2Proof

/-! ### The stages of a loss -/

/-- The cause of the breaks that a loss makes (R117). -/
def LossCause.breakCause (cause : LossCause) : BreakCause := if cause.isOverrun then .fence else .link

/-- The loss up to its own fault (R20, R21). -/
def lossBegun (x : Port) (cause : LossCause) (s : State) : State :=
  raiseFault (lossReport x cause) (s.modifyPort x (PortRec.lost s.node cause))

/-- The loss up to the breaks of the port's locks (R22, R116). -/
def lossBroken (x : Port) (cause : LossCause) (s : State) : State :=
  breakHeldBy x cause.breakCause (lossAtTracking x (lossBegun x cause s))

/-- What follows the breaks: the heads resolved to `x`, the queued note and the held reply (R66, R134, R179). -/
def lossEnded (x : Port) (u : State) : State :=
  lossAtMgmt x (lossAtNote x (markHeads (fun _ r => headedFor x r.head) u))

theorem lossState_eq (x : Port) (cause : LossCause) (s : State) :
    lossState x cause s = lossEnded x (lossBroken x cause s) := by
  unfold lossState lossEnded lossBroken lossBegun LossCause.breakCause
  rw [leaveUp_eq]

theorem lossAtNote_blocks (x : Port) (s : State) : ∃ alert, lossAtNote x s = { s with alert := alert } := by
  unfold lossAtNote
  split
  · exact ⟨s.alert, rfl⟩
  · split
    · unfold routeCheck withdrawNote
      repeat' split
      all_goals exact ⟨_, rfl⟩
    · exact ⟨s.alert, rfl⟩

theorem lossAtMgmt_held {x : Port} {r : QueuedReply} {s : State} (h : s.mgmt = .replyHeld x r) :
    lossAtMgmt x s = { s with mgmt := .idle } := by
  unfold lossAtMgmt
  rw [h]
  exact if_pos rfl

theorem lossAtMgmt_other {x : Port} {s : State} (h : ∀ r, s.mgmt ≠ .replyHeld x r) : lossAtMgmt x s = s := by
  unfold lossAtMgmt
  split
  · next o r ho => exact if_neg fun e => h r (by rw [ho, e])
  · rfl

theorem lossAtMgmt_blocks (x : Port) (s : State) : ∃ mgmt, lossAtMgmt x s = { s with mgmt := mgmt } := by
  by_cases h : ∃ r, s.mgmt = .replyHeld x r
  · obtain ⟨r, h⟩ := h
    exact ⟨_, lossAtMgmt_held h⟩
  · exact ⟨s.mgmt, lossAtMgmt_other fun r hr => h ⟨r, hr⟩⟩

/-- The end of a loss changes the marks of heads, the alert and the Management Unit alone. -/
theorem lossEnded_blocks (x : Port) (u : State) :
    ∃ alert mgmt, lossEnded x u =
      { u with ports := (markHeads (fun _ r => headedFor x r.head) u).ports, alert := alert, mgmt := mgmt } := by
  obtain ⟨alert, ha⟩ := lossAtNote_blocks x (markHeads (fun _ r => headedFor x r.head) u)
  obtain ⟨mgmt, hm⟩ := lossAtMgmt_blocks x (lossAtNote x (markHeads (fun _ r => headedFor x r.head) u))
  refine ⟨alert, mgmt, ?_⟩
  unfold lossEnded
  rw [hm, ha]
  rfl

/-- The start of a loss changes the record of its port, the Fault List, FLT# and the alert alone. -/
theorem lossBegun_blocks (x : Port) (cause : LossCause) (s : State) :
    ∃ flt faults alert, lossBegun x cause s =
      { s.modifyPort x (PortRec.lost s.node cause) with fltLow := flt, faultList := faults, alert := alert } := by
  generalize hu : s.modifyPort x (PortRec.lost s.node cause) = u
  generalize ht : raiseFault (lossReport x cause) u = t
  refine ⟨t.fltLow, t.faultList, t.alert, ?_⟩
  have h := State.eq_of_blocks (s := u) (t := t) (by simp [← ht]) (by simp [← ht]) (by simp [← ht]) (by simp [← ht])
    (by simp [← ht]) (by simp [← ht]) (by simp [← ht]) (by simp [← ht]) (by simp [← ht]) (by simp [← ht])
  rw [show t.ports = u.ports by simp [← ht], show t.track = u.track by simp [← ht], show t.locks = u.locks by simp [← ht],
    show t.mgmt = u.mgmt by simp [← ht], show t.actions = u.actions by simp [← ht]] at h
  rw [lossBegun, hu, ht]
  exact h

/-! ### Each block after a loss -/

theorem lost_traffic (n : Node) (cause : LossCause) (r : PortRec) :
    NoTraffic (r.lost n cause) ∧ (r.lost n cause).peerNode = none ∧ (r.lost n cause).offers = none ∧
      (r.lost n cause).helloDue = 0 ∧ (r.lost n cause).recheck = false ∧
      (r.lost n cause).fenced = (r.fenced || cause.isOverrun) ∧ (r.lost n cause).fencedDrops = r.fencedDrops ∧
      (r.lost n cause).arbPointer = r.arbPointer ∧ (r.lost n cause).queuePointer = r.queuePointer := by
  unfold PortRec.lost
  split <;> simp [NoTraffic, PortRec.turnedOff, PortRec.trained, lossRecord]

theorem lost_off (n : Node) (r : PortRec) :
    (r.lost n .disabled).link = .off ∧ (r.lost n .disabled).helloTimer = none ∧
      (r.lost n .disabled).attemptTimer = none ∧ (r.lost n .disabled).tx = none := by
  simp [PortRec.lost, PortRec.turnedOff]

theorem lost_training (n : Node) {cause : LossCause} (h : cause ≠ .disabled) (r : PortRec) :
    (r.lost n cause).link = .training ∧ (r.lost n cause).attempts = 0 ∧ (r.lost n cause).heard = false ∧
      (r.lost n cause).seen = false ∧ (r.lost n cause).helloTimer = some 10 ∧ (r.lost n cause).attemptTimer = some 200 ∧
      (r.lost n cause).tx = some ⟨.hello n 12#8 8#8 false, false⟩ := by
  simp [PortRec.lost, PortRec.trained, lossRecord, h]

theorem lost_link_ne_up (n : Node) (cause : LossCause) (r : PortRec) : (r.lost n cause).link ≠ .up := by
  by_cases h : cause = .disabled
  · rw [h, (lost_off n r).1]
    simp
  · rw [(lost_training n h r).1]
    simp

theorem lossBegun_port_self (x : Port) (cause : LossCause) (s : State) :
    (lossBegun x cause s).port x = (s.port x).lost s.node cause := by
  rw [lossBegun, raiseFault_port, State.port_modifyPort_self]

theorem lossBegun_port_of_ne {x q : Port} (hq : q ≠ x) (cause : LossCause) (s : State) :
    (lossBegun x cause s).port q = s.port q := by
  rw [lossBegun, raiseFault_port, State.port_modifyPort_of_ne s _ hq]

theorem loseLink_ports (x : Port) (cause : LossCause) (s : State) :
    (loseLink x cause s).ports = (markHeads (fun _ r => headedFor x r.head) (lossBroken x cause s)).ports := by
  rw [loseLink_eq, lossState_eq]
  obtain ⟨alert, mgmt, h⟩ := lossEnded_blocks x (lossBroken x cause s)
  rw [h]

theorem loseLink_port (x : Port) (cause : LossCause) (s : State) (q : Port) :
    (loseLink x cause s).port q = (markHeads (fun _ r => headedFor x r.head) (lossBroken x cause s)).port q := by
  rw [State.port, loseLink_ports]
  rfl

/-- The lost port itself (R21, R3, R8). -/
theorem loseLink_port_self (x : Port) (cause : LossCause) (s : State) :
    (loseLink x cause s).port x = (s.port x).lost s.node cause := by
  have hx : (lossAtTracking x (lossBegun x cause s)).port x = (s.port x).lost s.node cause :=
    (noticeFrame_lossAtEntries x _ _).own.trans (lossBegun_port_self x cause s)
  have hh : ((s.port x).lost s.node cause).head = .empty := (lost_traffic s.node cause (s.port x)).1.2.2.2.1
  have hb : (lossBroken x cause s).port x = (s.port x).lost s.node cause := by
    rw [lossBroken, (locksBroken_breakHeldBy x _ _).port x, hx, hh]
    simp [HeadState.waiting]
  rw [loseLink_port, markHeads_port, hb, hh]
  simp [HeadState.waiting]

theorem headedFor_iff (x : Port) (r : PortRec) : HeadedFor x r ↔ r.head.waiting = true ∧ headedFor x r.head = true := by
  unfold HeadedFor headedFor HeadState.waiting
  cases r.head <;> simp [route_output_iff]

theorem holdsLock_congr {x : Port} {s t : State} (h : t.locks = s.locks) : HoldsLock x t ↔ HoldsLock x s := by
  unfold HoldsLock
  rw [h]

theorem lossBegun_locks (x : Port) (cause : LossCause) (s : State) : (lossBegun x cause s).locks = s.locks := by
  simp [lossBegun]

theorem lossAtTracking_locks (x : Port) (s : State) : (lossAtTracking x s).locks = s.locks := by
  obtain ⟨p, t, h⟩ := (noticeFrame_lossAtEntries x (List.finRange 64) s).blocks
  rw [lossAtTracking_eq, h]

theorem lossAtTracking_alert (x : Port) (s : State) : (lossAtTracking x s).alert = s.alert := by
  obtain ⟨p, t, h⟩ := (noticeFrame_lossAtEntries x (List.finRange 64) s).blocks
  rw [lossAtTracking_eq, h]

theorem lossAtTracking_faultList (x : Port) (s : State) : (lossAtTracking x s).faultList = s.faultList := by
  obtain ⟨p, t, h⟩ := (noticeFrame_lossAtEntries x (List.finRange 64) s).blocks
  rw [lossAtTracking_eq, h]

theorem lossAtTracking_time (x : Port) (s : State) : (lossAtTracking x s).time = s.time := by
  obtain ⟨p, t, h⟩ := (noticeFrame_lossAtEntries x (List.finRange 64) s).blocks
  rw [lossAtTracking_eq, h]

theorem lossNoticed_locks (x : Port) (cause : LossCause) (s : State) :
    (lossAtTracking x (lossBegun x cause s)).locks = s.locks :=
  (lossAtTracking_locks x _).trans (lossBegun_locks x cause s)

/-- Another port after a loss: its reply lane and Reply Queue as the entries leave them, and the mark of its head (R66). -/
theorem loseLink_port_of_ne {x q : Port} (hq : q ≠ x) (cause : LossCause) (s : State) :
    ∃ mark, (loseLink x cause s).port q =
        { s.port q with repLane := ((lossAtTracking x (lossBegun x cause s)).port q).repLane
                        owed := ((lossAtTracking x (lossBegun x cause s)).port q).owed
                        replyQueue := ((lossAtTracking x (lossBegun x cause s)).port q).replyQueue
                        recheck := mark } ∧
      (mark = true ↔ (s.port q).recheck = true ∨ HeadedFor x (s.port q) ∨ (HoldsLock x s ∧ HeadWaits (s.port q))) := by
  obtain ⟨lane, owed, queue, hn⟩ := (noticeFrame_lossAtEntries x (List.finRange 64) (lossBegun x cause s)).other q
  rw [← lossAtTracking_eq, lossBegun_port_of_ne hq cause s] at hn
  obtain ⟨m, hp, hm⟩ := breakHeldBy_port x cause.breakCause (lossAtTracking x (lossBegun x cause s)) q
  rw [holdsLock_congr (lossNoticed_locks x cause s), headWaits_iff, hn] at hm
  rw [loseLink_port, markHeads_port, lossBroken, hp, hn]
  rw [headedFor_iff, headWaits_iff]
  dsimp only at hm ⊢
  cases hw : ((s.port q).head.waiting && headedFor x (s.port q).head) with
  | true =>
    rw [Bool.and_eq_true] at hw
    exact ⟨true, rfl, by simp [hw]⟩
  | false =>
    refine ⟨m, rfl, ?_⟩
    have hnot : ¬ ((s.port q).head.waiting = true ∧ headedFor x (s.port q).head = true) := by
      rw [← Bool.and_eq_true, hw]
      simp
    rw [hm, or_iff_right hnot]

theorem loseLink_track (x : Port) (cause : LossCause) (s : State) :
    (loseLink x cause s).track = (lossAtTracking x (lossBegun x cause s)).track := by
  rw [loseLink_eq, lossState_eq]
  obtain ⟨alert, mgmt, h⟩ := lossEnded_blocks x (lossBroken x cause s)
  obtain ⟨p, f, l, q, a, hb⟩ := (locksBroken_breakHeldBy x cause.breakCause (lossAtTracking x (lossBegun x cause s))).frame
  rw [h, lossBroken, hb]

theorem loseLink_locks (x : Port) (cause : LossCause) (s : State) :
    (loseLink x cause s).locks = (lossBroken x cause s).locks := by
  rw [loseLink_eq, lossState_eq]
  obtain ⟨alert, mgmt, h⟩ := lossEnded_blocks x (lossBroken x cause s)
  rw [h]

theorem loseLink_faultList (x : Port) (cause : LossCause) (s : State) :
    (loseLink x cause s).faultList = (lossBroken x cause s).faultList := by
  rw [loseLink_eq, lossState_eq]
  obtain ⟨alert, mgmt, h⟩ := lossEnded_blocks x (lossBroken x cause s)
  rw [h]

/-- A loss up to its breaks changes the ports, the entries, the locks, the faults and the alert alone. -/
theorem lossBroken_blocks (x : Port) (cause : LossCause) (s : State) :
    ∃ ports flt track locks faults alert, lossBroken x cause s =
      { s with ports := ports, fltLow := flt, track := track, locks := locks, faultList := faults, alert := alert } := by
  obtain ⟨f1, q1, a1, h1⟩ := lossBegun_blocks x cause s
  obtain ⟨p2, t2, h2⟩ := (noticeFrame_lossAtEntries x (List.finRange 64) (lossBegun x cause s)).blocks
  rw [← lossAtTracking_eq] at h2
  obtain ⟨p3, f3, l3, q3, a3, h3⟩ :=
    (locksBroken_breakHeldBy x cause.breakCause (lossAtTracking x (lossBegun x cause s))).frame
  refine ⟨p3, f3, t2, l3, q3, a3, ?_⟩
  rw [lossBroken, h3, h2, h1]
  rfl

/-- The blocks that a loss leaves. -/
theorem loseLink_blocks (x : Port) (cause : LossCause) (s : State) :
    ∃ ports flt track locks mgmt faults alert, loseLink x cause s =
      { s with ports := ports, fltLow := flt, track := track, locks := locks, mgmt := mgmt, faultList := faults,
               alert := alert, actions := s.actions.filter fun a => a.origin != x } := by
  obtain ⟨p1, f1, t1, l1, q1, a1, h1⟩ := lossBroken_blocks x cause s
  obtain ⟨a2, m2, h2⟩ := lossEnded_blocks x (lossBroken x cause s)
  refine ⟨(markHeads (fun _ r => headedFor x r.head) (lossBroken x cause s)).ports, f1, t1, l1, m2, q1, a2, ?_⟩
  rw [loseLink_eq, lossState_eq, h2]
  generalize (markHeads (fun _ r => headedFor x r.head) (lossBroken x cause s)).ports = p2
  rw [h1]

theorem loseLink_locksFreed (x : Port) (cause : LossCause) (s : State) : LocksFreed x s (loseLink x cause s) := by
  intro r
  have h := (locksBroken_breakHeldBy x cause.breakCause (lossAtTracking x (lossBegun x cause s))).locksFreed r
  rw [lossNoticed_locks] at h
  rw [loseLink_locks]
  exact h

theorem loseLink_mgmt (x : Port) (cause : LossCause) (s : State) :
    (∀ r, s.mgmt = .replyHeld x r → (loseLink x cause s).mgmt = .idle) ∧
      ((∀ r, s.mgmt ≠ .replyHeld x r) → (loseLink x cause s).mgmt = s.mgmt) := by
  obtain ⟨p1, f1, t1, l1, q1, a1, h1⟩ := lossBroken_blocks x cause s
  obtain ⟨a2, h2⟩ := lossAtNote_blocks x (markHeads (fun _ r => headedFor x r.head) (lossBroken x cause s))
  have hm : (lossAtNote x (markHeads (fun _ r => headedFor x r.head) (lossBroken x cause s))).mgmt = s.mgmt := by
    rw [h2]
    dsimp only
    rw [markHeads_mgmt, h1]
  rw [loseLink_eq, lossState_eq, lossEnded]
  generalize lossAtNote x (markHeads (fun _ r => headedFor x r.head) (lossBroken x cause s)) = u at hm
  refine ⟨fun r hr => ?_, fun hn => ?_⟩
  · rw [lossAtMgmt_held (hm.trans hr)]
  · rw [lossAtMgmt_other fun r hr => hn r (hm.symm.trans hr)]
    exact hm

/-! ### The queued alert note -/

/-- A queued note stays where it is when a fault is raised: its alert joins the pending ones (R177). -/
theorem raiseFault_queued {r : FaultReport} {s : State} {q : QueuedNote} (h : s.alert.queued = some q) :
    (raiseFault r s).alert.queued = some q := by
  unfold raiseFault
  dsimp only
  split
  · unfold raiseAlert
    split
    · unfold setPendingAlert
      split
      · exact h
      · rw [routeCheck_idle (.inr (by simp [h]))]
        exact h
    · exact h
  · exact h

theorem breakHeldBy_queued {x : Port} {cause : BreakCause} {s : State} {q : QueuedNote} (h : s.alert.queued = some q) :
    (breakHeldBy x cause s).alert.queued = some q := by
  refine breakHeldBy_keeps (fun u => u.alert.queued = some q) x cause s h fun r u hu => ?_
  unfold breakRecord
  split
  · exact hu
  · rw [markForLocks_alert]
    exact raiseFault_queued hu

theorem lossBroken_queued {x : Port} {cause : LossCause} {s : State} {q : QueuedNote} (h : s.alert.queued = some q) :
    (lossBroken x cause s).alert.queued = some q := by
  rw [lossBroken]
  refine breakHeldBy_queued ?_
  rw [lossAtTracking_alert]
  exact raiseFault_queued (by exact h)

theorem loseLink_alert (x : Port) (cause : LossCause) (s : State) :
    (loseLink x cause s).alert =
      (lossAtNote x (markHeads (fun _ r => headedFor x r.head) (lossBroken x cause s))).alert := by
  rw [loseLink_eq, lossState_eq, lossEnded]
  obtain ⟨m, hm⟩ := lossAtMgmt_blocks x (lossAtNote x (markHeads (fun _ r => headedFor x r.head) (lossBroken x cause s)))
  rw [hm]

/-- The alert route of a state is that of another one with the same tables and no link up that was not. -/
theorem alertRoute_up {s : State} {n : Node} {p : Port} (hn : s.settings.alertNode = some n)
    (hp : s.nodeTable[n] = .port p) (hu : (s.port p).link = .up) : alertRoute s = some (n, p) := by
  unfold alertRoute
  rw [hn]
  show (match s.nodeTable[n] with | .port p => if s.isUp p then some (n, p) else none | _ => none) = _
  rw [hp]
  exact if_pos ((isUp_iff s p).2 hu)

theorem alertRoute_eq_none {s : State}
    (h : ∀ (n : Node) (p : Port), s.settings.alertNode = some n → s.nodeTable[n] = .port p → (s.port p).link ≠ .up) :
    alertRoute s = none := by
  unfold alertRoute
  split
  · rfl
  · next n hn =>
    split
    · next p hp => exact if_neg fun hu => h n p hn hp ((isUp_iff s p).1 hu)
    · rfl

theorem withdrawNote_queued {s : State} {q : QueuedNote} (h : s.alert.queued = some q) :
    withdrawNote s = { s with alert := { s.alert with queued := none, pending := true } } := by
  unfold withdrawNote
  rw [h]

theorem noteAfterLoss_loseLink (x : Port) (cause : LossCause) (s : State) : NoteAfterLoss x s (loseLink x cause s) := by
  intro q hq
  have hf := loseLink_faultList x cause s
  have hport := loseLink_port x cause s
  have ha := loseLink_alert x cause s
  have hself := loseLink_port_self x cause s
  have hne := fun p (h : p ≠ x) => loseLink_port_of_ne h cause s
  generalize loseLink x cause s = t at *
  obtain ⟨p1, f1, t1, l1, q1, a1, hb⟩ := lossBroken_blocks x cause s
  have hset : (lossBroken x cause s).settings = s.settings := by rw [hb]
  have htab : (lossBroken x cause s).nodeTable = s.nodeTable := by rw [hb]
  have hnode : (lossBroken x cause s).node = s.node := by rw [hb]
  have hqu : (markHeads (fun _ r => headedFor x r.head) (lossBroken x cause s)).alert.queued = some q := by
    rw [markHeads_alert]
    exact lossBroken_queued hq
  rw [← markHeads_settings (fun _ r => headedFor x r.head)] at hset
  rw [← markHeads_nodeTable (fun _ r => headedFor x r.head)] at htab
  rw [← markHeads_node (fun _ r => headedFor x r.head)] at hnode
  rw [← markHeads_faultList (fun _ r => headedFor x r.head) (lossBroken x cause s)] at hf
  clear hb
  generalize markHeads (fun _ r => headedFor x r.head) (lossBroken x cause s) = u at *
  have hlink : ∀ p, (u.port p).link = if p = x then ((s.port x).lost s.node cause).link else (s.port p).link := by
    intro p
    rw [← hport p]
    by_cases hp : p = x
    · subst hp
      rw [if_pos rfl, hself]
    · obtain ⟨m, hm, -⟩ := hne p hp
      rw [if_neg hp, hm]
  have hnote : lossAtNote x u = if q.out = x then routeCheck (withdrawNote u) else u := by
    unfold lossAtNote
    rw [hqu]
  refine ⟨fun ho => ?_, fun ho => ⟨fun n p hn hp hpx hup => ?_, fun hnone => ?_⟩⟩
  · rw [ha, hnote, if_neg ho]
    exact hqu
  · have hr : alertRoute (withdrawNote u) = some (n, p) := by
      rw [withdrawNote_queued hqu]
      refine alertRoute_up (by exact hset ▸ hn) (by exact htab ▸ hp) ?_
      exact (hlink p).trans ((if_neg hpx).trans hup)
    rw [ha, hnote, if_pos ho, routeCheck_found (by rw [withdrawNote_queued hqu]) (by rw [withdrawNote_queued hqu]) hr]
    refine ⟨rfl, ?_⟩
    rw [hf, ← hnode]
    rw [withdrawNote_queued hqu]
    rfl
  · have hr : alertRoute (withdrawNote u) = none := by
      rw [withdrawNote_queued hqu]
      refine alertRoute_eq_none fun n p hn hp hup => ?_
      have hup' : (if p = x then ((s.port x).lost s.node cause).link else (s.port p).link) = .up := (hlink p).symm.trans hup
      by_cases hpx : p = x
      · rw [if_pos hpx] at hup'
        exact lost_link_ne_up s.node cause (s.port x) hup'
      · rw [if_neg hpx] at hup'
        exact ((hnone n p (hset ▸ hn) (htab ▸ hp)).resolve_left hpx) hup'
    rw [ha, hnote, if_pos ho, routeCheck_none hr, withdrawNote_queued hqu]
    exact ⟨rfl, rfl⟩

end Sys2Proof.Machine
end

section
/-! CERTIFICATE. What a link loss leaves of its own port, and the HELLO that restarts a link (R5, R12, R21). -/

namespace Sys2Proof.Machine

open Sys2Proof

/-! ### A port with nothing to do -/

/-- A port that is not UP and holds no parcel: no internal action reaches it. -/
structure PortRec.Idle (r : PortRec) : Prop where
  link : r.link ≠ .up
  reqLane : r.reqLane = []
  repLane : r.repLane = []
  head : r.head = .empty
  recheck : r.recheck = false

theorem not_ready_of_down {r : PortRec} (h : r.link ≠ .up) : transmitterReady r ≠ true := fun ht =>
  h ((transmitterReady_iff r).1 ht).1

theorem PortRec.Idle.eq_of_internalMove {r q : PortRec} (m : InternalMove r q) (h : r.Idle) : q = r := by
  obtain ⟨hl, hq, hp, hh, hr⟩ := h
  cases m with
  | examined st hne _ _ => exact absurd hq hne
  | noHead _ => rw [← hh, ← hr]
  | unmarked => rw [← hr]
  | marked hw => rw [hh] at hw; cases hw
  | counted n hne => exact absurd hq hne
  | popped _ _ he _ => rw [hq] at he; cases he
  | replyPopped _ _ he => rw [hp] at he; cases he
  | admitted _ _ hu _ => exact absurd hu hl
  | replySent _ _ _ _ ht _ _ _ => exact absurd ht (not_ready_of_down hl)
  | answerSent _ _ _ _ _ _ ht _ _ _ _ => exact absurd ht (not_ready_of_down hl)
  | begun _ _ _ ht => exact absurd ht (not_ready_of_down hl)

/-- The rest of an event leaves a port that is idle as it is. -/
theorem settle_port_of_idle {s : State} {p : Port} (h : (s.port p).Idle) : (settle s).port p = s.port p :=
  MovesInternally.keeps (P := fun r => r = s.port p) (fun _ _ m hr => (hr ▸ h).eq_of_internalMove m |>.trans hr)
    (movesInternally_settle s) rfl

theorem idle_lost (n : Node) (cause : LossCause) (r : PortRec) : (r.lost n cause).Idle := by
  obtain ⟨⟨h1, h2, -, h4, -, -⟩, -, -, -, h5, -⟩ := lost_traffic n cause r
  exact ⟨lost_link_ne_up n cause r, h1, h2, h4, h5⟩

theorem idle_hearing {r : PortRec} (n : Node) (o : LanePair) (h : r.Idle) : (r.hearing n o).Idle :=
  ⟨h.link, h.reqLane, h.repLane, h.head, h.recheck⟩

/-! ### The loss that a parcel causes -/

theorem takeActions_nil (s : State) : takeActions [] s = s := by
  unfold takeActions runActions
  cases s.actions <;> rfl

theorem linkLoss_of_no_actions {x : Port} {s : State} (cause : LossCause) (h : s.actions = []) :
    linkLoss x cause s = loseLink x cause s := by
  have ha : actionsOf x s = [] := by simp [actionsOf, h]
  rw [linkLoss, ha, takeActions_nil]

/-- The credits that come with the parcel of an overrun are lost with the link (R16, R21). -/
theorem linkLoss_takeCredits (p : Port) (cause : LossCause) (c : Credits) (s : State) :
    linkLoss p cause (takeCredits p c s) = linkLoss p cause s := by
  have hl : leaveUp p cause (takeCredits p c s) = leaveUp p cause s := by
    rw [leaveUp_eq, leaveUp_eq, takeCredits_node, takeCredits, State.modifyPort_modifyPort]
    refine State.modifyPort_congr ?_
    cases (s.port p).offers <;> rfl
  have hs : loseLink p cause (takeCredits p c s) = loseLink p cause s := by
    unfold loseLink
    rw [hl]
  rw [linkLoss, linkLoss, hs]
  rfl

theorem execDamagedParcel_up {p : Port} {bytes : List Byte} {s : State} (hr : s.resetLow = false)
    (hu : (s.port p).link = .up) (hb : parse bytes = .damaged) :
    exec (.damagedParcel p bytes) s = .next (settle (linkLoss p .linkCheck s)) := by
  show execDamagedParcel p bytes s = _
  rw [execDamagedParcel, whenRunning_high hr, hb, hu]

theorem execHelloReceiveUp_clear {p : Port} {bytes : List Byte} {n : Node} {a b : Byte} {s : State}
    (hr : s.resetLow = false) (hu : (s.port p).link = .up) (hb : parse bytes = .parcel (.hello n a b false)) :
    exec (.helloReceiveUp p bytes) s = .next (settle (firstOfTraining p n a b false (linkLoss p .peerRestart s))) := by
  show execHelloReceiveUp p bytes s = _
  rw [execHelloReceiveUp, whenRunning_high hr, hb, hu]

theorem execHelloReceiveUp_set {p : Port} {bytes : List Byte} {n : Node} {a b : Byte} {s : State}
    (hr : s.resetLow = false) (hb : parse bytes = .parcel (.hello n a b true)) :
    exec (.helloReceiveUp p bytes) s = .next s := by
  show execHelloReceiveUp p bytes s = _
  rw [execHelloReceiveUp, whenRunning_high hr, hb]

theorem execRequestParcelReceive_full {p : Port} {bytes : List Byte} {k : Credits} {r : Request} {s : State}
    (hr : s.resetLow = false) (hu : (s.port p).link = .up) (hb : parse bytes = .parcel (.request k r))
    (hl : 12 ≤ (s.port p).reqLane.length) :
    exec (.requestParcelReceive p bytes) s = .next (settle (linkLoss p .overrunRequest s)) := by
  have he : receiveRequest p k r s = linkLoss p .overrunRequest (takeCredits p k s) := if_neg (Nat.not_lt.2 hl)
  rw [execRequestParcelReceive_up hr hu hb, he, linkLoss_takeCredits]

theorem execReplyParcelReceive_full {p : Port} {bytes : List Byte} {k : Credits} {r : Reply} {s : State}
    (hr : s.resetLow = false) (hu : (s.port p).link = .up) (hb : parse bytes = .parcel (.reply k r))
    (hl : 8 ≤ (s.port p).repLane.length) :
    exec (.replyParcelReceive p bytes) s = .next (settle (linkLoss p .overrunReply s)) := by
  have he : receiveReply p k r s = linkLoss p .overrunReply (takeCredits p k s) := if_neg (Nat.not_lt.2 hl)
  rw [execReplyParcelReceive_up hr hu hb, he, linkLoss_takeCredits]

/-- What a parcel of R20 comes to: the loss with its own report, and for a HELLO its acceptance (log entry 12). -/
theorem LosesLink.exec_eq {p : Port} {report : FaultReport} {c : Instr} {s : State} (h : LosesLink p report c s) :
    ∃ cause, cause ≠ .disabled ∧ report = lossReport p cause ∧
      (exec c s = .next (settle (linkLoss p cause s)) ∨
        ∃ n a b, cause = .peerRestart ∧ exec c s = .next (settle (firstOfTraining p n a b false (linkLoss p cause s)))) := by
  obtain ⟨hr, hu, ⟨bytes, rfl, hb, rfl⟩ | ⟨bytes, n, a, b, rfl, hb, rfl⟩ | ⟨bytes, k, r, rfl, hb, hl, rfl⟩ |
    ⟨bytes, k, r, rfl, hb, hl, rfl⟩⟩ := h
  · exact ⟨.linkCheck, by simp, rfl, .inl (execDamagedParcel_up hr hu hb)⟩
  · exact ⟨.peerRestart, by simp, rfl, .inr ⟨n, a, b, rfl, execHelloReceiveUp_clear hr hu hb⟩⟩
  · exact ⟨.overrunRequest, by simp, rfl, .inl (execRequestParcelReceive_full hr hu hb hl)⟩
  · exact ⟨.overrunReply, by simp, rfl, .inl (execReplyParcelReceive_full hr hu hb hl)⟩

/-- A HELLO with the seen flag clear, at a port in TRAINING that has not been seen: accepted, or ignored (R5). -/
theorem firstOfTraining_hearing {p : Port} {n : Node} {a b : Byte} {s : State} (hl : (s.port p).link = .training)
    (hs : (s.port p).seen = false) (ho : 1 ≤ a.toNat ∧ a.toNat ≤ 12 ∧ 1 ≤ b.toNat ∧ b.toNat ≤ 8) :
    firstOfTraining p n a b false s = s.modifyPort p (PortRec.hearing n ⟨a.toNat, b.toNat⟩) := by
  unfold firstOfTraining
  rw [if_pos ⟨hl, (offersGood_iff a b).2 ho⟩, acceptHello_unseen (by simp [hs])]

theorem firstOfTraining_ignored {p : Port} {n : Node} {a b : Byte} {f : Bool} {s : State}
    (h : (s.port p).link ≠ .training ∨ ¬ (1 ≤ a.toNat ∧ a.toNat ≤ 12 ∧ 1 ≤ b.toNat ∧ b.toNat ≤ 8)) :
    firstOfTraining p n a b f s = s := by
  unfold firstOfTraining
  rw [if_neg]
  rintro ⟨hl, hg⟩
  exact h.elim (fun h => h hl) fun h => h ((offersGood_iff a b).1 hg)

/-- The port after a HELLO has restarted its link: heard if the offers are in range (R5, R12). -/
theorem firstOfTraining_port {p : Port} {n : Node} {a b : Byte} {s : State} (hl : (s.port p).link = .training)
    (hs : (s.port p).seen = false) :
    ((1 ≤ a.toNat ∧ a.toNat ≤ 12 ∧ 1 ≤ b.toNat ∧ b.toNat ≤ 8) →
      (firstOfTraining p n a b false s).port p = (s.port p).hearing n ⟨a.toNat, b.toNat⟩) ∧
    (¬ (1 ≤ a.toNat ∧ a.toNat ≤ 12 ∧ 1 ≤ b.toNat ∧ b.toNat ≤ 8) →
      (firstOfTraining p n a b false s).port p = s.port p) :=
  ⟨fun ho => by rw [firstOfTraining_hearing hl hs ho, State.port_modifyPort_self],
   fun ho => by rw [firstOfTraining_ignored (.inr ho)]⟩

/-- Settles O11: the loss, the new training, and the HELLO as its first. -/
theorem helloInUp : Obligations.HelloInUp := by
  intro p bytes n a b f s hr hu hb
  refine ⟨fun hf => execHelloReceiveUp_set hr (hf ▸ hb), fun hf ha => ?_⟩
  subst hf
  refine ⟨_, execHelloReceiveUp_clear hr hu hb, ?_⟩
  rw [linkLoss_of_no_actions _ ha]
  have hp := loseLink_port_self p .peerRestart s
  generalize loseLink p .peerRestart s = u at hp
  obtain ⟨h1, h2, h3, h4, h5, h6, h7⟩ := lost_training s.node (cause := .peerRestart) (by simp) (s.port p)
  obtain ⟨ht, hpn, ho, -⟩ := lost_traffic s.node .peerRestart (s.port p)
  have hi : (u.port p).Idle := hp ▸ idle_lost s.node .peerRestart (s.port p)
  obtain ⟨good, bad⟩ := firstOfTraining_port (p := p) (n := n) (a := a) (b := b) (s := u) (by rw [hp, h1]) (by rw [hp, h4])
  by_cases hg : 1 ≤ a.toNat ∧ a.toNat ≤ 12 ∧ 1 ≤ b.toNat ∧ b.toNat ≤ 8
  · have he : (settle (firstOfTraining p n a b false u)).port p = (u.port p).hearing n ⟨a.toNat, b.toNat⟩ := by
      rw [settle_port_of_idle (by rw [good hg]; exact idle_hearing _ _ hi), good hg]
    rw [he, hp]
    exact ⟨h1, h2, h4, h6, h5, h7, ht, fun _ => ⟨rfl, rfl, rfl⟩, fun hn => absurd hg hn⟩
  · have he : (settle (firstOfTraining p n a b false u)).port p = u.port p := by
      rw [settle_port_of_idle (by rw [bad hg]; exact hi), bad hg]
    rw [he, hp]
    exact ⟨h1, h2, h4, h6, h5, h7, ht, fun hn => absurd hn hg, fun _ => ⟨h3, hpn, ho⟩⟩

theorem isOverrun_iff (cause : LossCause) :
    cause.isOverrun = true ↔ cause = .overrunRequest ∨ cause = .overrunReply := by
  cases cause <;> simp [LossCause.isOverrun]

/-- The port in the state that a parcel of R20 leaves, with no deferred action waiting: lost, and for a HELLO then heard. -/
theorem LosesLink.port {p : Port} {report : FaultReport} {c : Instr} {s : State} (h : LosesLink p report c s)
    (ha : s.actions = []) :
    ∃ t cause, exec c s = .next t ∧ cause ≠ .disabled ∧ report = lossReport p cause ∧
      (t.port p = (s.port p).lost s.node cause ∨
        cause = .peerRestart ∧ ∃ n o, t.port p = ((s.port p).lost s.node cause).hearing n o) := by
  obtain ⟨cause, hc, rfl, he⟩ := h.exec_eq
  rw [linkLoss_of_no_actions cause ha] at he
  have hp := loseLink_port_self p cause s
  generalize loseLink p cause s = u at hp he
  have hi : (u.port p).Idle := hp ▸ idle_lost s.node cause (s.port p)
  obtain ⟨h1, -, -, h4, -⟩ := lost_training s.node hc (s.port p)
  rcases he with he | ⟨n, a, b, hcause, he⟩
  · exact ⟨_, cause, he, hc, rfl, .inl ((settle_port_of_idle hi).trans hp)⟩
  · refine ⟨_, cause, he, hc, rfl, ?_⟩
    obtain ⟨good, bad⟩ := firstOfTraining_port (p := p) (n := n) (a := a) (b := b) (s := u) (by rw [hp, h1]) (by rw [hp, h4])
    by_cases hg : 1 ≤ a.toNat ∧ a.toNat ≤ 12 ∧ 1 ≤ b.toNat ∧ b.toNat ≤ 8
    · refine .inr ⟨hcause, n, ⟨a.toNat, b.toNat⟩, ?_⟩
      rw [settle_port_of_idle (by rw [good hg]; exact idle_hearing _ _ hi), good hg, hp]
    · refine .inl ?_
      rw [settle_port_of_idle (by rw [bad hg]; exact hi), bad hg, hp]

/-- Settles O15: the record of the lost port, which the rest of the event leaves as it is. -/
theorem linkLossEmptiesThePort : Obligations.LinkLossEmptiesThePort := by
  refine ⟨fun p report c s h ha => ?_, fun x cause s => ⟨_, rfl, ?_⟩⟩
  · obtain ⟨t, cause, he, hc, rfl, ht⟩ := h.port ha
    obtain ⟨h1, h2, h3, h4, h5, h6, h7⟩ := lost_training s.node hc (s.port p)
    obtain ⟨k1, k2, k3, -, -, k6, k7, k8, k9⟩ := lost_traffic s.node cause (s.port p)
    have hk : ((lossReport p cause).kind == .overrun) = cause.isOverrun := by cases cause <;> rfl
    rw [← hk] at k6
    refine ⟨t, he, ?_⟩
    rcases ht with ht | ⟨rfl, n, o, ht⟩
    · rw [ht]
      exact ⟨k1, h1, h2, h4, h5, h6, h7, k6, k7, k8, k9, fun _ => ⟨h3, k2, k3⟩⟩
    · rw [ht]
      exact ⟨k1, h1, h2, h4, h5, h6, h7, k6, k7, k8, k9, fun hn => absurd rfl hn⟩
  · rw [loseLink_port_self]
    obtain ⟨k1, k2, k3, k4, k5, k6, k7, k8, k9⟩ := lost_traffic s.node cause (s.port x)
    refine ⟨k1, k2, k3, k4, k5, fun hc => ?_, fun h1 h2 => ?_, k7, k8, k9, fun hc => ?_, fun hc => ?_⟩
    · rw [k6, (isOverrun_iff cause).2 hc, Bool.or_true]
    · rw [k6, Bool.eq_false_of_not_eq_true fun hc => ((isOverrun_iff cause).1 hc).elim h1 h2, Bool.or_false]
    · subst hc
      exact lost_off s.node (s.port x)
    · exact lost_training s.node hc (s.port x)

end Sys2Proof.Machine
end

section
/-! SUPPORT. What the rest of an event may do to the blocks while port `p` is down and has no request: no entry, lock or held
reply of `p` comes about, and no link is lost. -/

namespace Sys2Proof.Machine

open Sys2Proof

/-! ### Steps away from a port -/

/-- The kinds of fault that a link loss has of its own (R20). -/
def lossKind (k : FaultKind) : Prop := k = .linkCheck ∨ k = .linkLost ∨ k = .overrun

/-- An entry that a loss of `p` leaves as it is: none of origin `p` is ACTIVE or REPLY_DUE, none of destination `p` is ACTIVE
(R100 to R102). -/
def TrackEntry.Settled (p : Port) (e : TrackEntry) : Prop :=
  (e.origin = p → ∀ b st, e.state ≠ .active b ∧ e.state ≠ .replyDue st) ∧ (e.dest = p → ∀ b, e.state ≠ .active b)

theorem settled_entombed (p : Port) (e : TrackEntry) (s : State) : (e.entombed s).Settled p :=
  ⟨fun _ _ _ => ⟨by simp [TrackEntry.entombed], by simp [TrackEntry.entombed]⟩, fun _ _ => by simp [TrackEntry.entombed]⟩

/-- One step of an internal action that has nothing to do with `p`, which is down. -/
inductive AwayStep (p : Port) (s : State) : State → Prop where
  | ports (v : Vector PortRec 6) : AwayStep p s { s with ports := v }
  | raised (r : FaultReport) : ¬ lossKind r.kind → AwayStep p s (raiseFault r s)
  | locked (r : Fin 4) (l : Lock) : l.holder ≠ p → AwayStep p s (setLock r (some l) s)
  | freed (r : Fin 4) : AwayStep p s (setLock r none s)
  | entry (i : Fin 64) (v : Option TrackEntry) : (∀ e, v = some e → e.Settled p) → AwayStep p s (setEntry i v s)
  | unit (m : MgmtState) : (∀ o q, m ≠ .replyHeld o q) → AwayStep p s { s with mgmt := m }
  | note (a : AlertPath) : AwayStep p s { s with alert := a }
  | counts (ptr : Fin 6) (k : Nat) : AwayStep p s { s with mPointer := ptr, freeUsed := k }

/-- What internal actions do while `p` is down. -/
def Away (p : Port) (s t : State) : Prop := Relation.ReflTransGen (AwayStep p) s t

theorem Away.refl (p : Port) (s : State) : Away p s s := Relation.ReflTransGen.refl

theorem Away.trans {p : Port} {s t u : State} (h : Away p s t) (k : Away p t u) : Away p s u :=
  Relation.ReflTransGen.trans h k

theorem AwayStep.away {p : Port} {s t : State} (h : AwayStep p s t) : Away p s t := .single h

/-- What every step keeps, they keep together. -/
theorem Away.keeps {p : Port} {P : State → Prop} (keep : ∀ u v, AwayStep p u v → P u → P v) {s t : State}
    (h : Away p s t) (hs : P s) : P t := by
  induction h with
  | refl => exact hs
  | tail _ m ih => exact keep _ _ m ih

section
variable (p : Port)

theorem away_modifyPort (x : Port) (f : PortRec → PortRec) (s : State) : Away p s (s.modifyPort x f) :=
  (AwayStep.ports _).away

theorem away_popHead (x : Port) (s : State) : Away p s (popHead x s) := away_modifyPort p x _ s

theorem away_popReply (x : Port) (s : State) : Away p s (popReply x s) := away_modifyPort p x _ s

theorem away_admitClaimant (x : Port) (c : Fin 8) (q : QueuedReply) (s : State) : Away p s (admitClaimant x c q s) :=
  away_modifyPort p x _ s

theorem away_setHead (x : Port) (st : HeadState) (s : State) : Away p s (setHead x st s) := away_modifyPort p x _ s

theorem away_markForLocks (s : State) : Away p s (markForLocks s) := (AwayStep.ports _).away

theorem away_toTombstone (i : Fin 64) (e : TrackEntry) (s : State) : Away p s (toTombstone i e s) :=
  (AwayStep.entry i _ fun _ hf => Option.some.inj hf ▸ settled_entombed p e s).away

theorem away_setEntry_none (i : Fin 64) (s : State) : Away p s (setEntry i none s) :=
  (AwayStep.entry i none fun _ h => by cases h).away

theorem away_offerAnswer (x : Port) (res : Option Resolution) (a : Reply) (s : State) : Away p s (offerAnswer x res a s) := by
  unfold offerAnswer
  split
  · exact (away_admitClaimant p x _ _ s).trans (away_popHead p x _)
  · exact away_modifyPort p x _ s

/-! ### Examinations -/

theorem away_dropWithFault (x : Port) {r : FaultReport} (s : State) (h : ¬ lossKind r.kind) :
    Away p s (dropWithFault x r s) :=
  (AwayStep.raised r h).away.trans (away_popHead p x _)

theorem away_stopHead (x : Port) (res : Option Resolution) (h : Request) (st : Status) {r : FaultReport} (s : State)
    (hk : ¬ lossKind r.kind) : Away p s (stopHead x res h st r s) := by
  unfold stopHead
  split
  · exact away_dropWithFault p x s hk
  · exact away_offerAnswer p x res _ s

theorem away_stopByFence (x : Port) (res : Option Resolution) (h : Request) (s : State) :
    Away p s (stopByFence x res h s) := by
  unfold stopByFence
  split
  · exact (away_modifyPort p x _ s).trans (away_popHead p x _)
  · exact away_offerAnswer p x res _ s

theorem away_stopMalformed (x : Port) (h : Request) (m : Malformation) (s : State) :
    Away p s (stopMalformed x h m s) := by
  unfold stopMalformed
  split
  · exact away_dropWithFault p x s (by simp [lossKind])
  · exact away_offerAnswer p x none _ s

theorem away_lockOrOffer (x : Port) (res : Resolution) (s : State) : Away p s (lockOrOffer x res s) := by
  unfold lockOrOffer
  split <;> exact away_setHead p x _ s

theorem away_outputChecks (x : Port) (h : Request) (res : Resolution) (s : State) :
    Away p s (outputChecks x h res s) := by
  unfold outputChecks
  split
  · exact away_lockOrOffer p x res s
  · split
    · exact away_lockOrOffer p x res s
    · exact away_stopHead p x _ h _ s (by simp [lossKind, noLinkReport])

variable {p}

/-- A lock is taken for the port of the head that claims it (R108). -/
theorem away_decideClaim {x : Port} (hx : x ≠ p) (i : Fin 48) (s : State) : Away p s (decideClaim x i s).2 := by
  unfold decideClaim
  split
  · exact (AwayStep.locked _ _ hx).away
  · split
    · exact .refl p s
    · split
      · exact (AwayStep.locked _ _ hx).away.trans (away_markForLocks p _)
      · exact .refl p s

theorem away_decideRelease (x : Port) (i : Fin 48) (s : State) : Away p s (decideRelease x i s).2 := by
  unfold decideRelease
  split
  · exact (AwayStep.freed _).away.trans (away_markForLocks p _)
  · exact .refl p s

theorem away_answerPathLock {x : Port} (hx : x ≠ p) (h : Request) (i : Fin 48) (d : Port) (out : Addr) (s : State) :
    Away p s (answerPathLock x h i d out s) := by
  unfold answerPathLock refuse
  dsimp only
  refine Away.trans ?_ (away_offerAnswer p x _ _ _)
  split
  · exact away_decideClaim hx i s
  · exact away_decideRelease x i s

theorem away_resolveAddress {x : Port} (hx : x ≠ p) (h : Request) (s : State) : Away p s (resolveAddress x h s) := by
  unfold resolveAddress
  dsimp only
  split
  · exact away_stopHead p x _ h _ s (by simp [lossKind])
  · exact away_stopHead p x _ h _ s (by simp [lossKind])
  · split
    · exact away_answerPathLock hx h _ _ _ s
    · exact away_outputChecks p x h _ s

theorem away_stopByHopLimit (x : Port) (h : Request) (s : State) : Away p s (stopByHopLimit x h s) := by
  unfold stopByHopLimit
  have hk : ¬ lossKind (hopReport x h).kind := by simp [lossKind, hopReport]
  split
  · exact away_dropWithFault p x s hk
  · exact (AwayStep.raised _ hk).away.trans (away_offerAnswer p x _ _ _)

theorem away_resolveForward (x : Port) (h : Request) (s : State) : Away p s (resolveForward x h s) := by
  unfold resolveForward
  dsimp only
  split
  · exact away_outputChecks p x h _ s
  · exact away_stopHead p x _ h _ s (by simp [lossKind])

theorem away_resolveNode (x : Port) (h : Request) (s : State) : Away p s (resolveNode x h s) := by
  unfold resolveNode
  split
  · split
    · exact away_dropWithFault p x s (by simp [lossKind])
    · exact away_setHead p x _ s
  · split
    · exact away_stopByHopLimit x h s
    · exact away_resolveForward x h s

/-- A port with a request in its lane is not `p`. -/
theorem away_examineHead {s : State} (hp : (s.port p).reqLane = []) (x : Port) : Away p s (examineHead x s) := by
  unfold examineHead
  split
  · exact away_setHead p x _ s
  · next h rest hl =>
    have hx : x ≠ p := fun e => by rw [e, hp] at hl; cases hl
    split
    · exact away_stopByFence p x none _ s
    · split
      · exact away_stopMalformed p x _ _ s
      · split
        · exact away_resolveNode x _ s
        · exact away_resolveAddress hx _ s

theorem away_recheckHeld (x : Port) (h : Request) (res : Resolution) (s : State) : Away p s (recheckHeld x h res s) := by
  unfold recheckHeld
  split
  · exact away_stopByFence p x _ h s
  · exact away_outputChecks p x h res s

theorem away_reexamineHead (x : Port) (s : State) : Away p s (reexamineHead x s) := by
  unfold reexamineHead
  dsimp only
  split
  · exact away_recheckHeld x _ _ s
  · exact away_recheckHeld x _ _ s
  · exact away_setHead p x _ s

/-! ### Choices of the arbiters -/

theorem away_placeReply (s : State) : Away p s (placeReply s) := by
  unfold placeReply
  split
  · exact (away_admitClaimant p _ _ _ s).trans (AwayStep.unit .idle fun _ _ h => by cases h).away
  · exact .refl p s

theorem away_grantM (s : State) : Away p s (grantM s) := by
  unfold grantM
  split
  · exact .refl p s
  · split
    · exact .refl p s
    · next x _ _ h _ =>
      exact ((away_popHead p x s).trans (AwayStep.unit (.executing (directiveOf x h)) fun _ _ h => by cases h).away).trans
        (AwayStep.counts x s.freeUsed).away

theorem away_giveSlot (x : Port) (s : State) : Away p s (giveSlot x s) := by
  obtain ⟨i, e, st, -, -, -, h⟩ | ⟨q, r, i, e, -, -, h⟩ | ⟨res, a, -, h⟩ | ⟨q, -, h⟩ | h := giveSlot_cases x s <;> rw [h]
  · exact (away_modifyPort p x _ s).trans (away_toTombstone p i e _)
  · exact ((away_admitClaimant p _ _ _ s).trans (away_setEntry_none p i _)).trans (away_popReply p q _)
  · exact (away_admitClaimant p x _ _ s).trans (away_popHead p x _)
  · exact (away_admitClaimant p x _ _ s).trans (AwayStep.unit .idle fun _ _ h => by cases h).away
  · exact .refl p s

theorem away_sendReply (x : Port) (s : State) : Away p s (sendReply x s) := by
  cases hq : (s.port x).replyQueue with
  | nil =>
    unfold sendReply
    rw [hq]
    exact .refl p s
  | cons q rest =>
    rw [sendReply_eq hq]
    exact Away.trans ((AwayStep.ports _).away) (away_giveSlot x _)

theorem away_beginGrant (out : Port) (i : Fin 7) (r : Request) (s : State) : Away p s (beginGrant out i r s) :=
  ((away_modifyPort p out _ s).trans (away_modifyPort p out _ _)).trans (away_modifyPort p out _ _)

theorem away_grantHead (out x : Port) (i : Fin 7) (r : Request) (s : State) : Away p s (grantHead out x i r s) :=
  (away_beginGrant out i r s).trans (away_popHead p x _)

/-- The new entry of a grant belongs to the port of its head and to the output, neither of which is `p` (R90). -/
theorem away_tryInput {out : Port} {s : State} (hp : (s.port p).reqLane = []) (ho : out ≠ p) (i : Fin 7) :
    Away p s (tryInput out i s).state := by
  unfold tryInput
  split
  · split
    · exact .refl p s
    · exact (AwayStep.note _).away.trans (away_beginGrant out 6 _ _)
  · split
    · exact .refl p s
    · next x _ _ q res hq =>
      obtain ⟨⟨rest, hl⟩, -, -⟩ := offeredAt_eq_some.1 hq
      have hx : x ≠ p := fun e => by rw [e, hp] at hl; cases hl
      split
      · exact away_grantHead out x i _ s
      · split
        · exact (AwayStep.entry _ _ fun e he => Option.some.inj he ▸
            ⟨fun h => absurd h hx, fun h => absurd h ho⟩).away.trans (away_grantHead out x i _ _)
        · exact away_offerAnswer p x _ _ s
        · exact .refl p s

theorem offerAnswer_reqLane_nil {s : State} (hp : (s.port p).reqLane = []) {x : Port} (hx : x ≠ p)
    (res : Option Resolution) (a : Reply) : ((offerAnswer x res a s).port p).reqLane = [] := by
  unfold offerAnswer
  split
  · rw [popHead_port_of_ne hx.symm, admitClaimant_port_of_ne hx.symm]
    exact hp
  · rw [State.port_modifyPort_of_ne s _ hx.symm]
    exact hp

theorem away_tryInputs {out : Port} {s : State} (hp : (s.port p).reqLane = []) (ho : out ≠ p) (is : List (Fin 7)) :
    Away p s (tryInputs out is s) := by
  induction is generalizing s with
  | nil => exact .refl p s
  | cons i rest ih =>
    unfold tryInputs
    split
    · have h := away_tryInput hp ho i
      split
      · next t e => rwa [e] at h
      · next t e =>
        rw [e] at h
        refine h.trans (ih ?_)
        obtain rfl | ⟨x, q, res, hq, rfl⟩ := tryInput_passed e
        · exact hp
        · obtain ⟨⟨lane, hl⟩, -, -⟩ := offeredAt_eq_some.1 hq
          exact offerAnswer_reqLane_nil hp (fun e => by rw [e, hp] at hl; cases hl) _ _
    · exact ih hp

theorem away_chooseNext {out : Port} {s : State} (hp : (s.port p).reqLane = []) (ho : out ≠ p) :
    Away p s (chooseNext out s) := by
  unfold chooseNext
  split
  · exact away_sendReply out s
  · split
    · exact away_tryInputs hp ho _
    · exact (AwayStep.ports _).away

/-- A port that is down and has no request. -/
def PortRec.Dormant (r : PortRec) : Prop := r.link ≠ .up ∧ r.reqLane = []

/-- Every internal action that may be taken has nothing to do with a port that is down and has no request. -/
theorem away_doInternal {a : Internal} {s : State} (k : Nat) (hp : (s.port p).Dormant) (h : a ∈ internalActions s) :
    Away p s (doInternal a { s with freeUsed := k }) := by
  have hk : Away p s { s with freeUsed := k } := (AwayStep.counts s.mPointer k).away
  refine hk.trans ?_
  cases a with
  | examine x => exact away_examineHead (s := { s with freeUsed := k }) hp.2 x
  | reexamine x => exact away_reexamineHead x _
  | placeReply => exact away_placeReply _
  | grantM => exact away_grantM _
  | choose x =>
    have hready : canSend s x = true := by
      rcases mem_internalActions.1 h with h | ⟨-, h⟩
      · exact absurd h (choose_notMem_dueNow s x)
      · exact choose_mem_arbiterChoices.1 h
    have hx : x ≠ p := fun e => by
      rw [e] at hready
      exact not_ready_of_down hp.1 ((canSend_iff s p).1 hready).1
    exact away_chooseNext (s := { s with freeUsed := k }) hp.2 hx

end

theorem dormant_of_internalMove {r q : PortRec} (m : InternalMove r q) (h : r.Dormant) : q.Dormant := by
  obtain ⟨hl, hq⟩ := h
  cases m with
  | popped _ _ he _ => rw [hq] at he; cases he
  | answerSent _ _ _ _ _ _ _ _ _ _ he => rw [hq] at he; cases he
  | _ => exact ⟨hl, hq⟩

theorem PortRec.Idle.dormant {r : PortRec} (h : r.Idle) : r.Dormant := ⟨h.link, h.reqLane⟩

/-- What steps away from `p` keep, the rest of an event keeps while `p` is down. -/
theorem settle_keeps_away {p : Port} {P : State → Prop} (keep : ∀ u v, AwayStep p u v → P u → P v) {s : State}
    (hp : (s.port p).Dormant) (hs : P s) : P (settle s) :=
  (settle_keeps (fun u => (u.port p).Dormant ∧ P u) s ⟨hp, hs⟩ fun _ _ k ⟨hd, hu⟩ ha =>
    ⟨MovesInternally.keeps (fun _ _ => dormant_of_internalMove) (movesInternally_doInternal k ha) hd,
      (away_doInternal k hd ha).keeps keep hu⟩).2

end Sys2Proof.Machine
end

section
/-! CERTIFICATE. Link loss at the other blocks: the faults of its event, and every entry, lock, queue, reply, note, head and
action (R20 to R22, R99 to R103, R115 to R117, R134, R137, R179). -/

namespace Sys2Proof.Machine

open Sys2Proof

/-! ### What deferred actions do to one port -/

/-- The changes that one deferred action may make to a port record (R136). -/
inductive ActionMove (r : PortRec) : PortRec → Prop where
  | same : ActionMove r r
  | lost (n : Node) (cause : LossCause) : ActionMove r (r.lost n cause)
  | trained (n : Node) : ActionMove r (r.trained n)
  | turnedOff : ActionMove r r.turnedOff
  | warmed (n : Node) : ActionMove r (r.warmed n)
  | noticed (lane : List Reply) (owed : LanePair) (queue : List QueuedReply) (mark : Bool) :
      ActionMove r { r with repLane := lane, owed := owed, replyQueue := queue, recheck := mark }

theorem actionMove_modifyPort {q p : Port} {f : PortRec → PortRec} {s : State} (m : ∀ r, ActionMove r (f r)) :
    ActionMove (s.port p) ((s.modifyPort q f).port p) := by
  rw [State.port_modifyPort]
  split
  · exact m _
  · exact .same

theorem actionMove_loseLink (q p : Port) (cause : LossCause) (s : State) :
    ActionMove (s.port p) ((loseLink q cause s).port p) := by
  by_cases hp : p = q
  · subst hp
    rw [loseLink_port_self]
    exact .lost s.node cause
  · obtain ⟨mark, h, -⟩ := loseLink_port_of_ne hp cause s
    rw [h]
    exact .noticed _ _ _ mark

theorem actionMove_disablePort (q p : Port) (s : State) : ActionMove (s.port p) ((disablePort q s).1.port p) := by
  unfold disablePort
  split
  · exact .same
  · exact actionMove_loseLink q p .disabled s
  · rw [enterOff_eq]
    exact actionMove_modifyPort fun _ => .turnedOff

theorem actionMove_restartPort (q p : Port) (s : State) : ActionMove (s.port p) ((restartPort q s).1.port p) := by
  unfold restartPort
  split
  · rw [enterTraining_eq]
    exact actionMove_modifyPort fun _ => .trained s.node
  · exact actionMove_loseLink q p .restart s
  · exact .same

theorem moveNode_port (n : Node) (s : State) (p : Port) : (moveNode n s).port p = s.port p := by
  unfold moveNode
  split
  · rfl
  · rw [routeCheck_port]
    rfl

/-- What every such change keeps of a port record, a list of actions keeps. -/
theorem takeActions_port_keeps {P : PortRec → Prop} (keep : ∀ r q, ActionMove r q → P r → P q)
    (work : List PendingAction) {s : State} {p : Port} (h : P (s.port p)) : P ((takeActions work s).port p) :=
  takeActions_keeps (fun u => P (u.port p)) work s h
    (fun u hu => keep _ _ (by rw [warmReset_port]; exact .warmed u.node) hu)
    (fun n u hu => by rw [moveNode_port]; exact hu)
    (fun q u hu => keep _ _ (actionMove_disablePort q p u) hu)
    (fun q u hu => keep _ _ (actionMove_restartPort q p u) hu)

/-- A port that has left UP and has not seen the peer's answer in its new training. -/
def PortRec.Restarted (r : PortRec) : Prop := r.Dormant ∧ r.seen = false

theorem restarted_of_actionMove (r q : PortRec) (m : ActionMove r q) (h : r.Restarted) : q.Restarted := by
  obtain ⟨⟨hl, hq⟩, hs⟩ := h
  cases m with
  | same => exact ⟨⟨hl, hq⟩, hs⟩
  | lost n cause =>
    refine ⟨(idle_lost n cause r).dormant, ?_⟩
    unfold PortRec.lost
    split
    · exact hs
    · rfl
  | trained n => exact ⟨⟨by simp [PortRec.trained], hq⟩, rfl⟩
  | turnedOff => exact ⟨⟨by simp [PortRec.turnedOff], hq⟩, hs⟩
  | warmed n =>
    obtain ⟨ht, -, -, hseen, -⟩ := warmed_cleared n r
    exact ⟨⟨warmed_not_up n r, ht.1⟩, hseen⟩
  | noticed lane owed queue mark => exact ⟨⟨hl, hq⟩, hs⟩

theorem restarted_lost (n : Node) {cause : LossCause} (h : cause ≠ .disabled) (r : PortRec) :
    (r.lost n cause).Restarted :=
  ⟨(idle_lost n cause r).dormant, (lost_training n h r).2.2.2.1⟩

theorem restarted_loseLink {p : Port} {cause : LossCause} (h : cause ≠ .disabled) (s : State) :
    ((loseLink p cause s).port p).Restarted := by
  rw [loseLink_port_self]
  exact restarted_lost s.node h (s.port p)

theorem restarted_linkLoss {p : Port} {cause : LossCause} (h : cause ≠ .disabled) (s : State) :
    ((linkLoss p cause s).port p).Restarted :=
  takeActions_port_keeps restarted_of_actionMove _ (restarted_loseLink h s)

/-- The HELLO of a restart is at most heard (R5, R12). -/
theorem firstOfTraining_cases {p : Port} {s : State} (h : (s.port p).Restarted) (n : Node) (a b : Byte) :
    firstOfTraining p n a b false s = s ∨
      ∃ o, firstOfTraining p n a b false s = s.modifyPort p (PortRec.hearing n o) := by
  by_cases hc : (s.port p).link = .training ∧ (1 ≤ a.toNat ∧ a.toNat ≤ 12 ∧ 1 ≤ b.toNat ∧ b.toNat ≤ 8)
  · exact .inr ⟨_, firstOfTraining_hearing hc.1 h.2 hc.2⟩
  · exact .inl (firstOfTraining_ignored (by tauto))

/-- A parcel of R20: its event comes to rest from the loss with the actions of the port, and for a HELLO in range with the
port heard. -/
theorem LosesLink.rests {p : Port} {report : FaultReport} {c : Instr} {s : State} (h : LosesLink p report c s) :
    ∃ cause v, cause ≠ .disabled ∧ report = lossReport p cause ∧ exec c s = .next (settle v) ∧ (v.port p).Dormant ∧
      (v = linkLoss p cause s ∨ ∃ n o, v = (linkLoss p cause s).modifyPort p (PortRec.hearing n o)) := by
  obtain ⟨cause, hc, hrep, he | ⟨n, a, b, -, he⟩⟩ := h.exec_eq
  · exact ⟨cause, _, hc, hrep, he, (restarted_linkLoss hc s).1, .inl rfl⟩
  · have hr := restarted_linkLoss (p := p) hc s
    rcases firstOfTraining_cases hr n a b with hf | ⟨o, hf⟩
    · exact ⟨cause, _, hc, hrep, hf ▸ he, hr.1, .inl rfl⟩
    · refine ⟨cause, _, hc, hrep, hf ▸ he, ?_, .inr ⟨n, o, rfl⟩⟩
      rw [State.port_modifyPort_self]
      exact hr.1

/-! ### The faults of an event -/

/-- Every fault raised from `s` to `t` satisfies `good`: under KEEP_OLDEST the records stay and only such are added. -/
def FaultsAdded (good : FaultReport → Prop) (s t : State) : Prop :=
  t.faultList.policy = s.faultList.policy ∧
    (s.faultList.policy = .keepOldest →
      ∃ later, t.faultList.records = s.faultList.records ++ later ∧ ∀ f ∈ later, good f.report)

section
variable {good : FaultReport → Prop} {s t u : State}

theorem faultsAdded_of_eq (h : t.faultList = s.faultList) : FaultsAdded good s t :=
  ⟨by rw [h], fun _ => ⟨[], by rw [h, List.append_nil], by simp⟩⟩

theorem FaultsAdded.trans (h : FaultsAdded good s t) (k : FaultsAdded good t u) : FaultsAdded good s u := by
  refine ⟨k.1.trans h.1, fun hp => ?_⟩
  obtain ⟨l1, h1, g1⟩ := h.2 hp
  obtain ⟨l2, h2, g2⟩ := k.2 (h.1.trans hp)
  refine ⟨l1 ++ l2, by rw [h2, h1, List.append_assoc], fun f hf => ?_⟩
  rcases List.mem_append.1 hf with hf | hf
  · exact g1 f hf
  · exact g2 f hf

theorem faultsAdded_raiseFault {r : FaultReport} (h : good r) (s : State) : FaultsAdded good s (raiseFault r s) := by
  rw [FaultsAdded, raiseFault_faultList]
  refine ⟨rfl, fun hp => ?_⟩
  by_cases hl : s.faultList.records.length < 32
  · exact ⟨_, keepRecord_room hl, by simpa using h⟩
  · refine ⟨[], ?_, by simp⟩
    rw [List.append_nil, hp]
    exact keepRecord_oldest (Nat.not_lt.1 hl)

theorem faultsAdded_breakHeldBy (hg : ∀ r : FaultReport, r.kind = .lockBroken → good r) (x : Port) (cause : BreakCause)
    (s : State) : FaultsAdded good s (breakHeldBy x cause s) := by
  refine breakHeldBy_keeps (FaultsAdded good s) x cause s (faultsAdded_of_eq rfl) fun r u hu => hu.trans ?_
  unfold breakRecord
  split
  · exact faultsAdded_of_eq rfl
  · next l _ =>
    have h1 : FaultsAdded good u (setLock r none u) := faultsAdded_of_eq rfl
    exact (h1.trans (faultsAdded_raiseFault (hg _ rfl) _)).trans (faultsAdded_of_eq (markForLocks_faultList _))

/-- After its own fault a loss raises those of its breaks alone (R116). -/
theorem faultsAdded_lossBegun_loseLink (hg : ∀ r : FaultReport, r.kind = .lockBroken → good r) (x : Port)
    (cause : LossCause) (s : State) : FaultsAdded good (lossBegun x cause s) (loseLink x cause s) := by
  have h1 : FaultsAdded good (lossBegun x cause s) (lossAtTracking x (lossBegun x cause s)) :=
    faultsAdded_of_eq (lossAtTracking_faultList x _)
  have h2 : FaultsAdded good (lossBroken x cause s) (loseLink x cause s) :=
    faultsAdded_of_eq (loseLink_faultList x cause s)
  exact (h1.trans (faultsAdded_breakHeldBy hg x _ _)).trans h2

theorem faultsAdded_loseLink (hg : ∀ r : FaultReport, r.kind = .lockBroken → good r) {x : Port} {cause : LossCause}
    (hown : good (lossReport x cause)) (s : State) : FaultsAdded good s (loseLink x cause s) := by
  have h1 : FaultsAdded good s (s.modifyPort x (PortRec.lost s.node cause)) := faultsAdded_of_eq rfl
  exact (h1.trans (faultsAdded_raiseFault hown _)).trans (faultsAdded_lossBegun_loseLink hg x cause s)

theorem faultsAdded_warmReset (hg : good { kind := .warmReset }) (s : State) : FaultsAdded good s (warmReset s) := by
  obtain ⟨ports, -, he⟩ := warmReset_eq s
  rw [he]
  have h1 : FaultsAdded good s (withdrawNote (warmBlocks { s with ports := ports })) :=
    faultsAdded_of_eq (withdrawNote_faultList _)
  exact h1.trans (faultsAdded_raiseFault hg _)

theorem moveNode_faultList (n : Node) (s : State) : (moveNode n s).faultList = s.faultList := by
  unfold moveNode
  split
  · rfl
  · exact routeCheck_faultList _

theorem faultsAdded_of_awayStep {p : Port} (hg : ∀ r : FaultReport, ¬ lossKind r.kind → good r) (m : AwayStep p s t) :
    FaultsAdded good s t := by
  cases m with
  | raised r hr => exact faultsAdded_raiseFault (hg r hr) s
  | _ => exact faultsAdded_of_eq rfl

end

/-- A fault that the event of a loss of `p` may raise after the loss's own: no loss of `p`, and none of any port unless a
deferred action waits. -/
def laterFault (p : Port) (s : State) (r : FaultReport) : Prop := lossKind r.kind → r.port ≠ some p ∧ s.actions ≠ []

theorem lossReport_port (x : Port) (cause : LossCause) : (lossReport x cause).port = some x := by cases cause <;> rfl

theorem laterFault_of_ne {p q : Port} {s : State} (hq : q ≠ p) (ha : s.actions ≠ []) (cause : LossCause) :
    laterFault p s (lossReport q cause) := fun _ => ⟨by rw [lossReport_port]; simpa using hq, ha⟩

/-- A deferred action raises no loss of a port that is down. -/
theorem faultsAdded_disablePort {p q : Port} {s u : State} (hp : (u.port p).Dormant) (ha : s.actions ≠ []) :
    FaultsAdded (laterFault p s) u (disablePort q u).1 := by
  unfold disablePort
  split
  · exact faultsAdded_of_eq rfl
  · next hu =>
    have hq : q ≠ p := fun e => hp.1 (e ▸ hu)
    exact faultsAdded_loseLink (fun r hr hk => by simp [lossKind, hr] at hk) (laterFault_of_ne hq ha .disabled) u
  · exact faultsAdded_of_eq rfl

theorem faultsAdded_restartPort {p q : Port} {s u : State} (hp : (u.port p).Dormant) (ha : s.actions ≠ []) :
    FaultsAdded (laterFault p s) u (restartPort q u).1 := by
  unfold restartPort
  split
  · rw [enterTraining_eq]
    exact faultsAdded_of_eq rfl
  · next hu =>
    have hq : q ≠ p := fun e => hp.1 (e ▸ hu)
    exact faultsAdded_loseLink (fun r hr hk => by simp [lossKind, hr] at hk) (laterFault_of_ne hq ha .restart) u
  · exact faultsAdded_of_eq rfl

/-- After its own fault, what a loss of `p` sets off raises no loss of `p` again. -/
theorem faultsAdded_linkLoss {p : Port} {cause : LossCause} (hc : cause ≠ .disabled) (s : State) :
    FaultsAdded (laterFault p s) (lossBegun p cause s) (linkLoss p cause s) := by
  have hb : ∀ r : FaultReport, r.kind = .lockBroken → laterFault p s r := fun r hr hk => by simp [lossKind, hr] at hk
  have h := faultsAdded_lossBegun_loseLink hb p cause s
  by_cases ha : s.actions = []
  · rw [linkLoss_of_no_actions cause ha]
    exact h
  · refine (takeActions_keeps
      (fun u => (u.port p).Restarted ∧ FaultsAdded (laterFault p s) (lossBegun p cause s) u) _ _
      ⟨restarted_loseLink hc s, h⟩ (fun u hu => ⟨?_, hu.2.trans (faultsAdded_warmReset (by simp [laterFault, lossKind]) u)⟩)
      (fun n u hu => ⟨?_, hu.2.trans (faultsAdded_of_eq (moveNode_faultList n u))⟩)
      (fun q u hu => ⟨?_, hu.2.trans (faultsAdded_disablePort hu.1.1 ha)⟩)
      (fun q u hu => ⟨?_, hu.2.trans (faultsAdded_restartPort hu.1.1 ha)⟩)).2
    · exact restarted_of_actionMove _ _ (by rw [warmReset_port]; exact .warmed u.node) hu.1
    · rw [moveNode_port]
      exact hu.1
    · exact restarted_of_actionMove _ _ (actionMove_disablePort q p u) hu.1
    · exact restarted_of_actionMove _ _ (actionMove_restartPort q p u) hu.1

theorem lossBegun_faults_room {x : Port} (cause : LossCause) {s : State} (hp : s.faultList.policy = .keepOldest)
    (hl : s.faultList.records.length < 32) :
    (lossBegun x cause s).faultList =
      { records := s.faultList.records ++ [⟨s.faultList.nextSeq, s.time, lossReport x cause⟩]
        nextSeq := s.faultList.nextSeq + 1#16, policy := .keepOldest } :=
  keepRecord_keepOldest_room (s := s.modifyPort x (PortRec.lost s.node cause)) (lossReport x cause) hp hl

/-- With room for them all, a loss keeps its own fault and then one for each lock of the port (R20, R116). -/
theorem loseLink_faults {x : Port} (cause : LossCause) {s : State} (hp : s.faultList.policy = .keepOldest)
    (hl : s.faultList.records.length + 5 ≤ 32) :
    ∃ broken, BrokenLockFaults x cause.breakCause.code (s.faultList.nextSeq + 1#16) s broken ∧
      (loseLink x cause s).faultList.records =
        s.faultList.records ++ ⟨s.faultList.nextSeq, s.time, lossReport x cause⟩ :: broken := by
  refine ⟨_, brokenLockFaults_locksHeldBy x cause.breakCause.code (s.faultList.nextSeq + 1#16) s, ?_⟩
  have hb := lossBegun_faults_room (x := x) cause hp (by omega)
  have hf : (lossAtTracking x (lossBegun x cause s)).faultList = _ := (lossAtTracking_faultList x _).trans hb
  have hlocks := lossNoticed_locks x cause s
  have htime : (lossAtTracking x (lossBegun x cause s)).time = s.time := by
    rw [lossAtTracking_time]
    simp [lossBegun]
  have hbr := locksBroken_breakHeldBy x cause.breakCause (lossAtTracking x (lossBegun x cause s))
  rw [loseLink_faultList, lossBroken]
  generalize lossAtTracking x (lossBegun x cause s) = u at hf hlocks htime hbr
  rw [locksHeldBy_congr hlocks] at hbr
  have hlen := locksHeldBy_length x s
  obtain ⟨-, -, hr⟩ := hbr.faults (by rw [hf]) (by rw [hf]; simp only [List.length_append, List.length_singleton]; omega)
  have same : ∀ seq r, brokenFault x cause.breakCause.code u seq r = brokenFault x cause.breakCause.code s seq r :=
    fun seq r => by simp only [brokenFault, htime, hlocks]
  rw [hr, hf, List.append_assoc, List.singleton_append]
  simp only [same]

theorem breakHeldBy_faults {x : Port} (cause : BreakCause) {s : State} (hp : s.faultList.policy = .keepOldest)
    (hl : s.faultList.records.length + 4 ≤ 32) :
    ∃ broken, BrokenLockFaults x cause.code s.faultList.nextSeq s broken ∧
      (breakHeldBy x cause s).faultList.records = s.faultList.records ++ broken := by
  have hlen := locksHeldBy_length x s
  exact ⟨_, brokenLockFaults_locksHeldBy x cause.code s.faultList.nextSeq s,
    ((locksBroken_breakHeldBy x cause s).faults hp (by omega)).2.2⟩

/-- Settles O14: the event's faults after its own, then the loss and the break by themselves. -/
theorem linkLossRecordsItsOwnFaultFirst : Obligations.LinkLossRecordsItsOwnFaultFirst := by
  refine ⟨fun p report c s h hp hl => ?_, fun x cause s hp hl => ?_, fun x cause detail s hc hp hl => ?_,
    fun x cause s => ⟨_, rfl, (locksBroken_breakHeldBy x cause s).locksFreed, breakHeldBy_port x cause s,
      (locksBroken_breakHeldBy x cause s).frame⟩⟩
  · obtain ⟨cause, v, hc, rfl, he, hd, hv⟩ := h.rests
    have hb := lossBegun_faults_room (x := p) cause hp hl
    have h1 : FaultsAdded (laterFault p s) (lossBegun p cause s) v := by
      rcases hv with rfl | ⟨n, o, rfl⟩
      · exact faultsAdded_linkLoss hc s
      · exact (faultsAdded_linkLoss hc s).trans (faultsAdded_of_eq rfl)
    have h2 := settle_keeps_away (P := FaultsAdded (laterFault p s) (lossBegun p cause s))
      (fun u w m hu => hu.trans (faultsAdded_of_awayStep (fun r hr hk => absurd hk hr) m)) hd h1
    obtain ⟨later, hr, hg⟩ := h2.2 (by rw [hb])
    refine ⟨_, later, he, ?_, hg⟩
    rw [hr, hb, List.append_assoc]
    rfl
  · obtain ⟨broken, hb, hr⟩ := loseLink_faults (x := x) cause hp hl
    refine ⟨lossReport x cause, cause.breakCause.code, broken, ?_, ?_, ?_, ?_, ?_, ?_, ?_, ?_, hb, hr⟩
    · rintro rfl; rfl
    · rintro rfl; rfl
    · rintro rfl; rfl
    · rintro rfl; rfl
    · rintro rfl; rfl
    · rintro rfl; rfl
    · rintro (rfl | rfl) <;> rfl
    · intro h1 h2
      rw [LossCause.breakCause, if_neg fun h => ((isOverrun_iff cause).1 h).elim h1 h2]
      rfl
  · obtain ⟨rfl, rfl⟩ | ⟨rfl, rfl⟩ := hc
    · exact breakHeldBy_faults .link hp hl
    · exact breakHeldBy_faults .fence hp hl

end Sys2Proof.Machine
end

section
/-! CERTIFICATE. A link loss reaches every block: entries, locks, queues, replies, the note, heads and actions (R99 to R103,
R115 to R117, R134, R137, R179). -/

namespace Sys2Proof.Machine

open Sys2Proof

/-! ### Nothing of a port is left -/

/-- No block holds anything of port `p`: no lock, no entry that its loss ends, no held reply, no action (R22). -/
structure Cleared (p : Port) (s : State) : Prop where
  locks : ∀ (r : Fin 4) (l : Lock), s.locks[r] = some l → l.holder ≠ p
  entries : ∀ (i : Fin 64) (e : TrackEntry), s.track[i] = some e → e.Settled p
  mgmt : ∀ q, s.mgmt ≠ .replyHeld p q
  actions : ∀ a ∈ s.actions, a.origin ≠ p

theorem Cleared.congr {p : Port} {s t : State} (h : Cleared p s) (hl : t.locks = s.locks) (ht : t.track = s.track)
    (hm : t.mgmt = s.mgmt) (ha : t.actions = s.actions) : Cleared p t :=
  ⟨by rw [hl]; exact h.locks, by rw [ht]; exact h.entries, by rw [hm]; exact h.mgmt, by rw [ha]; exact h.actions⟩

theorem cleared_of_awayStep {p : Port} {s t : State} (m : AwayStep p s t) (h : Cleared p s) : Cleared p t := by
  cases m with
  | ports v => exact h.congr rfl rfl rfl rfl
  | raised r _ =>
    exact h.congr (raiseFault_locks r s) (raiseFault_track r s) (raiseFault_mgmt r s) (raiseFault_actions r s)
  | locked r l hl =>
    refine ⟨fun j k hk => ?_, h.entries, h.mgmt, h.actions⟩
    by_cases hj : j = r
    · subst hj
      rw [setLock_self] at hk
      exact Option.some.inj hk ▸ hl
    · rw [setLock_of_ne s _ hj] at hk
      exact h.locks j k hk
  | freed r =>
    refine ⟨fun j k hk => ?_, h.entries, h.mgmt, h.actions⟩
    by_cases hj : j = r
    · subst hj
      rw [setLock_self] at hk
      cases hk
    · rw [setLock_of_ne s _ hj] at hk
      exact h.locks j k hk
  | entry i v hv =>
    refine ⟨h.locks, fun j e he => ?_, h.mgmt, h.actions⟩
    by_cases hj : j = i
    · subst hj
      rw [setEntry_self] at he
      exact hv e he
    · rw [setEntry_of_ne s v hj] at he
      exact h.entries j e he
  | unit m hm => exact ⟨h.locks, h.entries, fun q => hm p q, h.actions⟩
  | note a => exact h.congr rfl rfl rfl rfl
  | counts ptr k => exact h.congr rfl rfl rfl rfl

theorem settled_orphaned {p : Port} {e f : TrackEntry} {i : Fin 64} {s : State}
    (h : (setEntry i (some { e with state := .orphaned }) s).track[i] = some f) : f.Settled p := by
  rw [setEntry_self] at h
  obtain rfl := Option.some.inj h
  exact ⟨fun _ _ _ => ⟨by simp, by simp⟩, fun _ _ => by simp⟩

theorem settled_toTombstone {p : Port} {e f : TrackEntry} {i : Fin 64} {s : State}
    (h : (toTombstone i e s).track[i] = some f) : f.Settled p := by
  rw [toTombstone, setEntry_self] at h
  exact Option.some.inj h ▸ settled_entombed p e s

theorem settled_placeSynth {p : Port} {e f : TrackEntry} {i : Fin 64} {st : OwedStatus} {s : State}
    (ho : e.origin ≠ p) (h : (placeSynth i e st s).track[i] = some f) : f.Settled p := by
  rcases placeSynth_cases i e st s with k | ⟨v, k, -, -, rfl | rfl⟩ <;> rw [k] at h
  · exact settled_toTombstone h
  · exact settled_toTombstone h
  · rw [setEntry_self] at h
    obtain rfl := Option.some.inj h
    exact ⟨fun h => absurd h ho, fun _ _ => by simp⟩

theorem discarded_entry {q : Port} {i : Fin 64} {s : State} : (popReply q (setEntry i none s)).track[i] = none := by
  rw [popReply_track, setEntry_self]

/-- The notice of any loss keeps a settled entry settled. -/
theorem NoticeAt.settled {p q : Port} {i : Fin 64} {s t : State} (n : NoticeAt q i s t)
    (h : ∀ e, s.track[i] = some e → e.Settled p) : ∀ e, t.track[i] = some e → e.Settled p := by
  intro f hf
  cases n with
  | free _ => exact h f hf
  | kept _ _ _ => exact h f hf
  | orphaned e _ _ _ _ => exact settled_orphaned hf
  | discarded e _ _ _ _ => rw [discarded_entry] at hf; cases hf
  | entombed e _ _ => exact settled_toTombstone hf
  | answered e he _ _ hs =>
    obtain ⟨b, hs⟩ := hs
    exact settled_placeSynth (fun ho => ((h e he).1 ho b .timeout).1 hs) hf

/-- The loss of `p` itself leaves every entry settled (R100 to R102). -/
theorem NoticeAt.settled_self {p : Port} {i : Fin 64} {s t : State} (n : NoticeAt p i s t) :
    ∀ e, t.track[i] = some e → e.Settled p := by
  intro f hf
  cases n with
  | free h => exact absurd (h.symm.trans hf) (by simp)
  | kept e h hc =>
    obtain rfl := Option.some.inj (h.symm.trans hf)
    rcases hc with ⟨ho, hd⟩ | hs | ⟨ho, hs⟩ | ⟨ho, st, hs⟩
    · exact ⟨fun h => absurd h ho, fun h => absurd h hd⟩
    · exact ⟨fun _ _ _ => by simp [hs], fun _ _ => by simp [hs]⟩
    · exact ⟨fun _ _ _ => by simp [hs], fun _ _ => by simp [hs]⟩
    · exact ⟨fun h => absurd h ho, fun _ _ => by simp [hs]⟩
  | orphaned e _ _ _ _ => exact settled_orphaned hf
  | discarded e _ _ _ _ => rw [discarded_entry] at hf; cases hf
  | entombed e _ _ => exact settled_toTombstone hf
  | answered e _ ho _ _ => exact settled_placeSynth ho hf

theorem lossBegun_track (x : Port) (cause : LossCause) (s : State) : (lossBegun x cause s).track = s.track := by
  simp [lossBegun]

/-- Each entry after a loss is as its notice leaves it. -/
theorem loseLink_entry (x : Port) (cause : LossCause) (s : State) (i : Fin 64) :
    ∃ u, u.track[i] = s.track[i] ∧ (loseLink x cause s).track[i] = (lossAtEntry x u i).track[i] := by
  obtain ⟨u, -, hu, ht⟩ := lossAtTracking_track x (lossBegun x cause s) i
  rw [lossBegun_track] at hu
  exact ⟨u, hu, by rw [loseLink_track, ht]⟩

theorem loseLink_actions (x : Port) (cause : LossCause) (s : State) :
    (loseLink x cause s).actions = s.actions.filter fun a => a.origin != x := by
  obtain ⟨p, f, t, l, m, q, a, h⟩ := loseLink_blocks x cause s
  rw [h]

theorem cleared_loseLink_self (p : Port) (cause : LossCause) (s : State) : Cleared p (loseLink p cause s) := by
  refine ⟨fun r l hl hp => ?_, fun i e he => ?_, fun q hq => ?_, fun a ha => ?_⟩
  · obtain ⟨freed, kept⟩ := loseLink_locksFreed p cause s r
    by_cases hh : ∃ k, s.locks[r] = some k ∧ k.holder = p
    · rw [freed hh] at hl
      cases hl
    · rw [kept fun k hk hkp => hh ⟨k, hk, hkp⟩] at hl
      exact hh ⟨l, hl, hp⟩
  · obtain ⟨u, -, ht⟩ := loseLink_entry p cause s i
    exact (noticeAt_lossAtEntry p i u).settled_self e (ht ▸ he)
  · obtain ⟨held, other⟩ := loseLink_mgmt p cause s
    by_cases hh : ∃ r, s.mgmt = .replyHeld p r
    · obtain ⟨r, hr⟩ := hh
      rw [held r hr] at hq
      cases hq
    · rw [other fun r hr => hh ⟨r, hr⟩] at hq
      exact hh ⟨q, hq⟩
  · rw [loseLink_actions] at ha
    simpa using (List.mem_filter.1 ha).2

theorem Cleared.loseLink {p : Port} {s : State} (h : Cleared p s) (q : Port) (cause : LossCause) :
    Cleared p (loseLink q cause s) := by
  refine ⟨fun r l hl => ?_, fun i e he => ?_, fun x hx => ?_, fun a ha => ?_⟩
  · obtain ⟨freed, kept⟩ := loseLink_locksFreed q cause s r
    by_cases hh : ∃ k, s.locks[r] = some k ∧ k.holder = q
    · rw [freed hh] at hl
      cases hl
    · rw [kept fun k hk hkq => hh ⟨k, hk, hkq⟩] at hl
      exact h.locks r l hl
  · obtain ⟨u, hu, ht⟩ := loseLink_entry q cause s i
    exact (noticeAt_lossAtEntry q i u).settled (fun f hf => h.entries i f (hu ▸ hf)) e (ht ▸ he)
  · obtain ⟨held, other⟩ := loseLink_mgmt q cause s
    by_cases hh : ∃ r, s.mgmt = .replyHeld q r
    · obtain ⟨r, hr⟩ := hh
      rw [held r hr] at hx
      cases hx
    · rw [other fun r hr => hh ⟨r, hr⟩] at hx
      exact h.mgmt x hx
  · rw [loseLink_actions] at ha
    exact h.actions a (List.mem_filter.1 ha).1

theorem cleared_warmReset (p : Port) (s : State) : Cleared p (warmReset s) := by
  obtain ⟨-, -, ht, hl, hm, ha, -⟩ := warmResetClearsTrafficAndKeepsTables s
  refine ⟨fun r l h => ?_, fun i e h => ?_, fun q => ?_, fun a h => ?_⟩
  · rw [hl r] at h
    cases h
  · rw [ht i] at h
    cases h
  · rw [hm]
    simp
  · rw [ha] at h
    cases h

theorem Cleared.moveNode {p : Port} {s : State} (h : Cleared p s) (n : Node) : Cleared p (moveNode n s) := by
  unfold Machine.moveNode
  split
  · exact h
  · exact h.congr (routeCheck_locks _) (routeCheck_track _) (routeCheck_mgmt _) (routeCheck_actions _)

theorem Cleared.disablePort {p : Port} {s : State} (h : Cleared p s) (q : Port) : Cleared p (disablePort q s).1 := by
  unfold Machine.disablePort
  split
  · exact h
  · exact h.loseLink q .disabled
  · exact h.congr rfl rfl rfl rfl

theorem Cleared.restartPort {p : Port} {s : State} (h : Cleared p s) (q : Port) : Cleared p (restartPort q s).1 := by
  unfold Machine.restartPort
  split
  · rw [enterTraining_eq]
    exact h.congr rfl rfl rfl rfl
  · exact h.loseLink q .restart
  · exact h

theorem cleared_linkLoss (p : Port) (cause : LossCause) (s : State) : Cleared p (linkLoss p cause s) :=
  takeActions_keeps (Cleared p) _ _ (cleared_loseLink_self p cause s) (fun u _ => cleared_warmReset p u)
    (fun n _ hu => hu.moveNode n) (fun q _ hu => hu.disablePort q) (fun q _ hu => hu.restartPort q)

/-- The event of a parcel of R20 leaves nothing of its port (R22). -/
theorem LosesLink.cleared {p : Port} {report : FaultReport} {c : Instr} {s : State} (h : LosesLink p report c s) :
    ∃ t, exec c s = .next t ∧ Cleared p t := by
  obtain ⟨cause, v, -, -, he, hd, hv⟩ := h.rests
  refine ⟨_, he, settle_keeps_away (fun _ _ m hu => cleared_of_awayStep m hu) hd ?_⟩
  rcases hv with rfl | ⟨n, o, rfl⟩
  · exact cleared_linkLoss p cause s
  · exact (cleared_linkLoss p cause s).congr rfl rfl rfl rfl

/-! ### The loss by itself -/

theorem lossBegun_settings (x : Port) (cause : LossCause) (s : State) : (lossBegun x cause s).settings = s.settings := by
  simp [lossBegun]

/-- The entries after a loss depend on the entries and the settings before it alone. -/
theorem EntriesAfterLoss.congr {x : Port} {s u t v : State} (h : EntriesAfterLoss x u v) (hs : u.track = s.track)
    (hset : u.settings = s.settings) (ht : t.track = v.track) : EntriesAfterLoss x s t := by
  unfold EntriesAfterLoss TrackEntry.entombed at h ⊢
  rw [hs, hset] at h
  rw [ht]
  exact h

theorem entriesAfterLoss_loseLink (x : Port) (cause : LossCause) (s : State) :
    EntriesAfterLoss x s (loseLink x cause s) := by
  have h := entriesAfterLoss_lossAtTracking x (lossBegun x cause s)
  have ht := loseLink_track x cause s
  generalize loseLink x cause s = t at ht ⊢
  exact h.congr (lossBegun_track x cause s) (lossBegun_settings x cause s) ht

theorem answersAfterLoss_loseLink {x q : Port} (hq : q ≠ x) (cause : LossCause) {s : State}
    (hu : (s.port q).link = .up) : AnswersAfterLoss x q s (loseLink x cause s) := by
  have hb := lossBegun_port_of_ne hq cause s
  obtain ⟨lost, room, hr, hp, hm, h1, h2, h3⟩ :=
    answersAfterLoss_lossAtTracking hq (s := lossBegun x cause s) ((congrArg PortRec.link hb).trans hu)
  rw [hb] at hr h1
  simp only [lossBegun_track] at hm
  simp only [TrackEntry.entombed, lossBegun_settings] at h2
  obtain ⟨mark, hport, -⟩ := loseLink_port_of_ne hq cause s
  have ht := loseLink_track x cause s
  generalize loseLink x cause s = t at hport ht ⊢
  generalize lossAtTracking x (lossBegun x cause s) = v at hport ht h1 h2 h3
  refine ⟨lost, room, hr, hp, hm, by rw [hport]; exact h1, ?_, ?_⟩
  · rw [ht]
    exact h2
  · rw [ht]
    exact h3

theorem laneAfterLoss_loseLink {x q : Port} (hq : q ≠ x) (cause : LossCause) (s : State) :
    LaneAfterLoss x q s (loseLink x cause s) := by
  have h := laneAfterLoss_lossAtTracking hq (lossBegun x cause s)
  unfold LaneAfterLoss InHandFor at h ⊢
  rw [lossBegun_port_of_ne hq, lossBegun_track] at h
  obtain ⟨mark, hport, -⟩ := loseLink_port_of_ne hq cause s
  generalize loseLink x cause s = t at hport ⊢
  generalize lossAtTracking x (lossBegun x cause s) = v at hport h
  rw [hport]
  exact h

/-- Settles O16: nothing of the port is left after the event; the event's parts; and the loss block by block. -/
theorem linkLossReachesEveryBlock : Obligations.LinkLossReachesEveryBlock := by
  refine ⟨fun p report c s h => ?_, fun p bytes s hr hu => ?_, fun x cause s => ?_⟩
  · obtain ⟨t, he, hc⟩ := h.cleared
    exact ⟨t, he, hc.locks, hc.entries, hc.mgmt, hc.actions⟩
  · refine ⟨fun cause => linkLoss p cause s, fun cause => rfl, execDamagedParcel_up hr hu,
      fun k r hb hl => execRequestParcelReceive_full hr hu hb hl, fun k r hb hl => execReplyParcelReceive_full hr hu hb hl,
      fun n a b hb => ⟨fun hl ho => ?_, fun hn => ?_⟩⟩
    · have hs := (restarted_linkLoss (p := p) (cause := .peerRestart) (by simp) s).2
      rw [execHelloReceiveUp_clear hr hu hb, firstOfTraining_hearing hl hs ho]
      rfl
    · rw [execHelloReceiveUp_clear hr hu hb, firstOfTraining_ignored hn]
  · obtain ⟨held, other⟩ := loseLink_mgmt x cause s
    exact ⟨_, rfl, entriesAfterLoss_loseLink x cause s,
      fun q hq hu => answersAfterLoss_loseLink hq cause ((isUp_iff s q).1 hu),
      fun q hq => laneAfterLoss_loseLink hq cause s, loseLink_locksFreed x cause s, noteAfterLoss_loseLink x cause s,
      held, other, fun q hq => let ⟨mark, h⟩ := loseLink_port_of_ne hq cause s; ⟨_, _, _, mark, h⟩,
      loseLink_blocks x cause s⟩

end Sys2Proof.Machine
end

section
/-! CERTIFICATE. Deferred actions: how a list of them is taken, and the one that follows the reply that left (R9, R126, R136 to
R138, R149, R150, R157). -/

namespace Sys2Proof.Machine

open Sys2Proof

/-! ### A list of actions -/

theorem takeActions_reset (o : Port) (rest : List PendingAction) (s : State) :
    takeActions (⟨.resetRouter, o⟩ :: rest) s = warmReset s := rfl

/-- An action that keeps the list of pending ones is followed by the rest of the work. -/
theorem runActions_rest {rest : List PendingAction} {s t : State} (h : t.actions = s.actions) :
    runActions (rest.length + 1 + s.actions.length) rest t = takeActions rest t := by
  rw [takeActions, h, Nat.add_right_comm]

theorem moveNode_actions (n : Node) (s : State) : (moveNode n s).actions = s.actions := by
  unfold moveNode
  split
  · rfl
  · exact routeCheck_actions _

theorem takeActions_setNode (n : Node) (o : Port) (rest : List PendingAction) (s : State) :
    takeActions (⟨.setNode n, o⟩ :: rest) s = takeActions rest (moveNode n s) :=
  runActions_rest (moveNode_actions n s)

theorem moveNode_ne {n : Node} {s : State} (h : n ≠ s.node) :
    moveNode n s = routeCheck { s with node := n, nodeTable := (s.nodeTable.set s.node .unreachable).set n .self } :=
  if_neg h

theorem moveNode_self (s : State) : moveNode s.node s = s := if_pos rfl

/-- A disable or restart request, with the actions that its loss sets off before the rest. -/
theorem takeActions_disable (q o : Port) (rest : List PendingAction) (s : State) :
    takeActions (⟨.disable q, o⟩ :: rest) s =
      runActions (rest.length + 1 + s.actions.length) ((disablePort q s).2 ++ rest) (disablePort q s).1 := rfl

theorem takeActions_restart (q o : Port) (rest : List PendingAction) (s : State) :
    takeActions (⟨.restart q, o⟩ :: rest) s =
      runActions (rest.length + 1 + s.actions.length) ((restartPort q s).2 ++ rest) (restartPort q s).1 := rfl

theorem disablePort_up {q : Port} {s : State} (h : (s.port q).link = .up) :
    disablePort q s = (loseLink q .disabled s, actionsOf q s) := by
  unfold disablePort
  rw [h]

theorem disablePort_off {q : Port} {s : State} (h : (s.port q).link = .off) : disablePort q s = (s, []) := by
  unfold disablePort
  rw [h]

theorem disablePort_down {q : Port} {s : State} (h : (s.port q).link = .training ∨ (s.port q).link = .halted) :
    disablePort q s = (s.modifyPort q PortRec.turnedOff, []) := by
  unfold disablePort
  rcases h with h | h <;> rw [h] <;> rfl

theorem restartPort_up {q : Port} {s : State} (h : (s.port q).link = .up) :
    restartPort q s = (loseLink q .restart s, actionsOf q s) := by
  unfold restartPort
  rw [h]

theorem restartPort_inactive {q : Port} {s : State} (h : (s.port q).link = .off ∨ (s.port q).link = .halted) :
    restartPort q s = (s, []) := by
  unfold restartPort
  rcases h with h | h <;> rw [h]

theorem restartPort_training {q : Port} {s : State} (h : (s.port q).link = .training) :
    restartPort q s = (s.modifyPort q (PortRec.trained s.node), []) := by
  unfold restartPort
  rw [h]
  exact congrArg (·, []) (enterTraining_eq q s)

/-- The actions of a lost port are taken before the rest, and there is work enough for them (R137; log entry 12). -/
theorem runActions_loss (q : Port) (cause : LossCause) (rest : List PendingAction) (s : State) :
    runActions (rest.length + 1 + s.actions.length) (actionsOf q s ++ rest) (loseLink q cause s) =
      takeActions ((s.actions.filter fun b => b.origin == q) ++ rest) (loseLink q cause s) := by
  have hlen := actionsOf_length q s
  have hn : (actionsOf q s ++ rest).length + (loseLink q cause s).actions.length + 1 =
      rest.length + 1 + s.actions.length := by
    rw [loseLink_actions, List.length_append]
    omega
  unfold takeActions
  exact congrArg (fun n => runActions n (actionsOf q s ++ rest) (loseLink q cause s)) hn.symm

theorem takeActions_loss {q o : Port} {k : ActionKind} {cause : LossCause} (rest : List PendingAction) {s : State}
    (hk : (k = .disable q ∧ cause = .disabled) ∨ (k = .restart q ∧ cause = .restart)) (hu : (s.port q).link = .up) :
    takeActions (⟨k, o⟩ :: rest) s =
      takeActions ((s.actions.filter fun b => b.origin == q) ++ rest) (loseLink q cause s) := by
  rcases hk with ⟨rfl, rfl⟩ | ⟨rfl, rfl⟩
  · rw [takeActions_disable, disablePort_up hu]
    exact runActions_loss q .disabled rest s
  · rw [takeActions_restart, restartPort_up hu]
    exact runActions_loss q .restart rest s

theorem takeActions_disable_off {q : Port} (o : Port) (rest : List PendingAction) {s : State}
    (h : (s.port q).link = .off) : takeActions (⟨.disable q, o⟩ :: rest) s = takeActions rest s := by
  rw [takeActions_disable, disablePort_off h]
  exact runActions_rest rfl

theorem takeActions_disable_down {q : Port} (o : Port) (rest : List PendingAction) {s : State}
    (h : (s.port q).link = .training ∨ (s.port q).link = .halted) :
    takeActions (⟨.disable q, o⟩ :: rest) s = takeActions rest (s.modifyPort q PortRec.turnedOff) := by
  rw [takeActions_disable, disablePort_down h]
  exact runActions_rest rfl

theorem takeActions_restart_inactive {q : Port} (o : Port) (rest : List PendingAction) {s : State}
    (h : (s.port q).link = .off ∨ (s.port q).link = .halted) :
    takeActions (⟨.restart q, o⟩ :: rest) s = takeActions rest s := by
  rw [takeActions_restart, restartPort_inactive h]
  exact runActions_rest rfl

theorem takeActions_restart_training {q : Port} (o : Port) (rest : List PendingAction) {s : State}
    (h : (s.port q).link = .training) :
    takeActions (⟨.restart q, o⟩ :: rest) s = takeActions rest (s.modifyPort q (PortRec.trained s.node)) := by
  rw [takeActions_restart, restartPort_training h]
  exact runActions_rest rfl

/-- A port in TRAINING that begins its training again (R9). -/
theorem trained_of_training {n : Node} {r : PortRec} (h : r.link = .training) :
    r.trained n =
      { r with attempts := 0, heard := false, seen := false, helloTimer := some 10, attemptTimer := some 200,
               tx := some (r.tx.getD ⟨.hello n 12#8 8#8 false, false⟩),
               helloDue := if r.tx.isNone then r.helloDue else r.helloDue + 1 } := by
  unfold PortRec.trained
  rw [← h]

/-! ### The action of the reply that left -/

/-- No HELLO is to be sent: none waits, or the transmitter is busy. -/
def PortRec.NoHello (r : PortRec) : Prop := r.helloDue = 0 ∨ r.tx ≠ none

theorem noHello_of_actionMove (r q : PortRec) (m : ActionMove r q) (h : r.NoHello) : q.NoHello := by
  cases m with
  | same => exact h
  | lost n cause => exact .inl (lost_traffic n cause r).2.2.2.1
  | trained n => exact .inr (by simp [PortRec.trained])
  | turnedOff => exact .inl rfl
  | warmed n =>
    unfold PortRec.warmed
    split
    · exact .inl rfl
    · exact .inr (by simp [PortRec.trained])
  | noticed lane owed queue mark => exact h

theorem execParcelLeft_tied {p : Port} {x : Parcel} {a : PendingAction} {s : State} (hr : s.resetLow = false)
    (ht : (s.port p).tx = some ⟨x, true⟩) (hk : (s.port p).helloDue = 0)
    (hn : ∀ q, s.alert.queued = some q → q.out = p → q.sending = false)
    (ha : s.actions.find? (fun b => b.origin == p) = some a) :
    exec (.parcelLeft p) s =
      .next (settle (takeActions [a]
        { (s.modifyPort p fun r => { r with tx := none }) with actions := s.actions.erase a })) := by
  rw [execParcelLeft_sending hr ht]
  unfold parcelGone
  dsimp only
  rw [noteLeft_other (by exact hn)]
  have hrel : releaseAction p (s.modifyPort p fun r => { r with tx := none }) =
      takeActions [a] { (s.modifyPort p fun r => { r with tx := none }) with actions := s.actions.erase a } := by
    unfold releaseAction
    rw [State.modifyPort_actions, ha]
  have hno : PortRec.NoHello ((takeActions [a]
      { (s.modifyPort p fun r => { r with tx := none }) with actions := s.actions.erase a }).port p) := by
    refine takeActions_port_keeps noHello_of_actionMove [a] (.inl ?_)
    rw [State.port_with_actions, State.port_modifyPort_self]
    exact hk
  rw [if_pos rfl, hrel, nextHello_none hno]

/-- Settles O18: the tied action by its kind and the link state of the port it names, then lists of actions. -/
theorem deferredActionFollowsItsReply : Obligations.DeferredActionFollowsItsReply := by
  refine ⟨fun p x a s hr ht hk hn ha => ⟨_, rfl, ?_⟩, takeActions_nil, fun o q rest s => ?_⟩
  · rw [execParcelLeft_tied hr ht hk hn ha]
    obtain ⟨k, o⟩ := a
    have hlink : ∀ q, (({ (s.modifyPort p fun r => { r with tx := none }) with
        actions := s.actions.erase ⟨k, o⟩ } : State).port q).link = (s.port q).link := fun q => by
      rw [State.port_with_actions, State.port_modifyPort]
      split <;> rfl
    have hnode : ({ (s.modifyPort p fun r => { r with tx := none }) with
        actions := s.actions.erase ⟨k, o⟩ } : State).node = s.node := rfl
    have htab : ({ (s.modifyPort p fun r => { r with tx := none }) with
        actions := s.actions.erase ⟨k, o⟩ } : State).nodeTable = s.nodeTable := rfl
    generalize ({ (s.modifyPort p fun r => { r with tx := none }) with
        actions := s.actions.erase ⟨k, o⟩ } : State) = u at *
    have loss : ∀ q cause, (k = .disable q ∧ cause = .disabled) ∨ (k = .restart q ∧ cause = .restart) →
        (s.port q).link = .up → takeActions [⟨k, o⟩] u =
          takeActions (u.actions.filter fun b => b.origin == q) (loseLink q cause u) := fun q cause hc hu => by
      rw [takeActions_loss [] hc ((hlink q).trans hu), List.append_nil]
    have alone : ∀ q, (∀ b ∈ u.actions, b.origin ≠ q) → (u.actions.filter fun b => b.origin == q) = [] := fun q hb =>
      List.filter_eq_nil_iff.2 fun b hm => by simpa using hb b hm
    refine ⟨fun n hkn hne => ?_, fun hkn => ?_, fun hkr => ?_, fun q hkd hl => ?_, fun q hkd hl => ?_,
      fun q hkd hl hb => ?_, fun q hkr hl => ?_, fun q hkr hl htx => ?_, fun q hkr hl hb => ?_, fun q hkr hl htx => ?_,
      fun q cause hc hl => by rw [loss q cause hc hl]⟩
    · obtain rfl : k = _ := hkn
      rw [takeActions_setNode, takeActions_nil, moveNode_ne (by rw [hnode]; exact hne)]
      simp only [hnode, htab]
    · obtain rfl : k = _ := hkn
      rw [takeActions_setNode, takeActions_nil, ← hnode, moveNode_self]
    · obtain rfl : k = _ := hkr
      rw [takeActions_reset]
    · obtain rfl : k = _ := hkd
      rw [takeActions_disable_off o [] ((hlink q).trans hl), takeActions_nil]
    · obtain rfl : k = _ := hkd
      rw [takeActions_disable_down o [] (by rw [hlink q]; exact hl), takeActions_nil]
      rfl
    · rw [loss q .disabled (.inl ⟨hkd, rfl⟩) hl, alone q hb, takeActions_nil]
    · obtain rfl : k = _ := hkr
      rw [takeActions_restart_inactive o [] (by rw [hlink q]; exact hl), takeActions_nil]
    · obtain rfl : k = _ := hkr
      rw [takeActions_restart_training o [] ((hlink q).trans hl), takeActions_nil]
      refine congrArg (fun v => Host.Outcome.next (settle v)) (State.modifyPort_congr ?_)
      rw [trained_of_training ((hlink q).trans hl), htx, hnode]
      rfl
    · rw [loss q .restart (.inr ⟨hkr, rfl⟩) hl, alone q hb, takeActions_nil]
    · obtain rfl : k = _ := hkr
      rw [takeActions_restart_training o [] ((hlink q).trans hl), takeActions_nil]
      refine congrArg (fun v => Host.Outcome.next (settle v)) (State.modifyPort_congr ?_)
      obtain ⟨t, ht⟩ := Option.ne_none_iff_exists'.1 htx
      rw [trained_of_training ((hlink q).trans hl)]
      rw [ht]
      rfl
  · refine ⟨fun k cause hc hu => takeActions_loss rest hc hu, takeActions_disable_off o rest,
      takeActions_disable_down o rest, takeActions_restart_inactive o rest, fun h => ?_, takeActions_reset o rest s,
      fun n hn => ?_, ?_⟩
    · rw [takeActions_restart_training o rest h]
      exact congrArg _ (State.modifyPort_congr (trained_of_training h))
    · rw [takeActions_setNode, moveNode_ne hn]
    · rw [takeActions_setNode, moveNode_self]

end Sys2Proof.Machine
end

section
/-! CERTIFICATE. Parcels as bytes: what is sent is read back, any bytes are read by size, check and kind, and fill is 0 (R10,
R25 to R28). -/

namespace Sys2Proof.Machine

open Sys2Proof

/-! ### Words and bytes -/

theorem word_of_bytes (w : Word) :
    w.extractLsb' 24 8 ++ w.extractLsb' 16 8 ++ w.extractLsb' 8 8 ++ w.extractLsb' 0 8 = w := by
  rw [BitVec.extractLsb'_append_extractLsb'_eq_extractLsb' (by decide : 24 = 16 + 8),
    BitVec.extractLsb'_append_extractLsb'_eq_extractLsb' (by decide : 16 = 8 + 8),
    BitVec.extractLsb'_append_extractLsb'_eq_extractLsb' (by decide : 8 = 0 + 8)]
  exact BitVec.extractLsb'_eq_self

theorem addr_of_bytes (w : Addr) :
    addrOfBytes (w.extractLsb' 40 8) (w.extractLsb' 32 8) (w.extractLsb' 24 8) (w.extractLsb' 16 8) (w.extractLsb' 8 8)
      (w.extractLsb' 0 8) = w := by
  unfold addrOfBytes
  rw [BitVec.extractLsb'_append_extractLsb'_eq_extractLsb' (by decide : 40 = 32 + 8),
    BitVec.extractLsb'_append_extractLsb'_eq_extractLsb' (by decide : 32 = 24 + 8),
    BitVec.extractLsb'_append_extractLsb'_eq_extractLsb' (by decide : 24 = 16 + 8),
    BitVec.extractLsb'_append_extractLsb'_eq_extractLsb' (by decide : 16 = 8 + 8),
    BitVec.extractLsb'_append_extractLsb'_eq_extractLsb' (by decide : 8 = 0 + 8)]
  exact BitVec.extractLsb'_eq_self

theorem extract_high {n m : Nat} (a : BitVec n) (b : BitVec m) : (a ++ b).extractLsb' m n = a := by
  rw [BitVec.extractLsb'_append_eq_of_le (Nat.le_refl m), Nat.sub_self]
  exact BitVec.extractLsb'_eq_self

theorem extract_low {n m : Nat} (a : BitVec n) (b : BitVec m) : (a ++ b).extractLsb' 0 m = b := by
  rw [BitVec.extractLsb'_append_eq_of_add_le (Nat.le_of_eq (Nat.zero_add m))]
  exact BitVec.extractLsb'_eq_self

theorem bytesOfWord_append (a b c d : Byte) : bytesOfWord (a ++ b ++ c ++ d) = [a, b, c, d] := by
  have ha : (a ++ b ++ c ++ d).extractLsb' 24 8 = a := by
    rw [BitVec.extractLsb'_append_eq_of_le (by decide), BitVec.extractLsb'_append_eq_of_le (by decide)]
    exact extract_high a b
  have hb : (a ++ b ++ c ++ d).extractLsb' 16 8 = b := by
    rw [BitVec.extractLsb'_append_eq_of_le (by decide), BitVec.extractLsb'_append_eq_of_le (by decide)]
    exact extract_low a b
  have hc : (a ++ b ++ c ++ d).extractLsb' 8 8 = c := by
    rw [BitVec.extractLsb'_append_eq_of_le (by decide)]
    exact extract_low (a ++ b) c
  have hd : (a ++ b ++ c ++ d).extractLsb' 0 8 = d := extract_low (a ++ b ++ c) d
  rw [bytesOfWord, ha, hb, hc, hd]

theorem bytesOfWord_eq_iff (w : Word) (a b c d : Byte) : bytesOfWord w = [a, b, c, d] ↔ w = a ++ b ++ c ++ d := by
  constructor
  · intro h
    unfold bytesOfWord at h
    simp only [List.cons.injEq, and_true] at h
    obtain ⟨rfl, rfl, rfl, rfl⟩ := h
    exact (word_of_bytes w).symm
  · rintro rfl
    exact bytesOfWord_append a b c d

theorem wordsOfBytes_bytesOfWords (ws : List Word) : wordsOfBytes (bytesOfWords ws) = ws := by
  induction ws with
  | nil => rfl
  | cons w rest ih =>
    show (w.extractLsb' 24 8 ++ w.extractLsb' 16 8 ++ w.extractLsb' 8 8 ++ w.extractLsb' 0 8) ::
      wordsOfBytes (bytesOfWords rest) = w :: rest
    rw [ih, word_of_bytes]

theorem bytesOfWords_length (ws : List Word) : (bytesOfWords ws).length = 4 * ws.length := by
  induction ws with
  | nil => rfl
  | cons w rest ih =>
    show (bytesOfWord w ++ bytesOfWords rest).length = _
    rw [List.length_append, ih, List.length_cons, Nat.mul_succ, Nat.add_comm]
    rfl

/-! ### Bytes by their places -/

/-- The four bytes from place `i` on, as a word (R25). -/
def wordAt (byte : Nat → Byte) (i : Nat) : Word := byte i ++ byte (i + 1) ++ byte (i + 2) ++ byte (i + 3)

theorem drop_eq_getD_cons {l : List Byte} {i : Nat} (h : i < l.length) : l.drop i = l.getD i 0#8 :: l.drop (i + 1) := by
  rw [List.drop_eq_getElem_cons h, List.getD_eq_getElem l 0#8 h]

/-- The words of a run of bytes, by their places. -/
theorem wordsOfBytes_drop (l : List Byte) (i k : Nat) (h : l.length = i + 4 * k) :
    wordsOfBytes (l.drop i) = (List.range k).map fun j => wordAt (fun m => l.getD m 0#8) (i + 4 * j) := by
  induction k generalizing i with
  | zero =>
    rw [List.drop_of_length_le (by omega)]
    rfl
  | succ k ih =>
    rw [drop_eq_getD_cons (by omega), drop_eq_getD_cons (by omega), drop_eq_getD_cons (by omega),
      drop_eq_getD_cons (by omega), wordsOfBytes, ih (i + 4) (by omega), List.range_succ_eq_map, List.map_cons,
      List.map_map]
    refine congrArg₂ List.cons rfl (List.map_congr_left fun j _ => ?_)
    exact congrArg _ (by show i + 4 + 4 * j = i + 4 * (j + 1); omega)

/-- A good body is read by its first ten bytes and the words from byte 16 on (R28). -/
theorem readGood_eq {l : List Byte} (h : 16 ≤ l.length) :
    readGood l = readHeader (l.getD 0 0#8) (l.getD 1 0#8) (l.getD 2 0#8) (l.getD 3 0#8) (l.getD 4 0#8) (l.getD 5 0#8)
      (l.getD 6 0#8) (l.getD 7 0#8) (l.getD 8 0#8) (l.getD 9 0#8) (wordsOfBytes (l.drop 16)) := by
  conv_lhs =>
    rw [← List.drop_zero (l := l), drop_eq_getD_cons (l := l) (i := 0) (by omega),
      drop_eq_getD_cons (l := l) (i := 0 + 1) (by omega), drop_eq_getD_cons (l := l) (i := 0 + 1 + 1) (by omega),
      drop_eq_getD_cons (l := l) (i := 0 + 1 + 1 + 1) (by omega), drop_eq_getD_cons (l := l) (i := 4) (by omega),
      drop_eq_getD_cons (l := l) (i := 5) (by omega), drop_eq_getD_cons (l := l) (i := 6) (by omega),
      drop_eq_getD_cons (l := l) (i := 7) (by omega), drop_eq_getD_cons (l := l) (i := 8) (by omega),
      drop_eq_getD_cons (l := l) (i := 9) (by omega), drop_eq_getD_cons (l := l) (i := 10) (by omega),
      drop_eq_getD_cons (l := l) (i := 11) (by omega), drop_eq_getD_cons (l := l) (i := 12) (by omega),
      drop_eq_getD_cons (l := l) (i := 13) (by omega), drop_eq_getD_cons (l := l) (i := 14) (by omega),
      drop_eq_getD_cons (l := l) (i := 15) (by omega)]
  rfl

theorem readHeader_ne_damaged (b0 b1 b2 b3 b4 b5 b6 b7 b8 b9 : Byte) (payload : List Word) :
    readHeader b0 b1 b2 b3 b4 b5 b6 b7 b8 b9 payload ≠ .damaged := by
  unfold readHeader
  repeat' split
  all_goals simp

/-! ### The check -/

theorem sizeGood_iff (n : Nat) : sizeGood n = true ↔ ∃ k ≤ 16, n = 20 + 4 * k := by
  simp only [sizeGood, Bool.and_eq_true, decide_eq_true_eq, beq_iff_eq]
  constructor
  · rintro ⟨⟨h1, h2⟩, h3⟩
    exact ⟨(n - 20) / 4, by omega, by omega⟩
  · rintro ⟨k, hk, rfl⟩
    omega

/-- Bytes of a good size, with their check (R10, R25, R26). -/
theorem parse_of_size {bytes : List Byte} {k : Nat} (hk : k ≤ 16) (hl : bytes.length = 20 + 4 * k) :
    parse bytes =
      if checkOf (bytes.take (16 + 4 * k)) = wordAt (fun i => bytes.getD i 0#8) (16 + 4 * k) then
        readGood (bytes.take (16 + 4 * k))
      else .damaged := by
  have hd : bytes.drop (16 + 4 * k) = [bytes.getD (16 + 4 * k) 0#8, bytes.getD (16 + 4 * k + 1) 0#8,
      bytes.getD (16 + 4 * k + 2) 0#8, bytes.getD (16 + 4 * k + 3) 0#8] := by
    rw [drop_eq_getD_cons (by omega), drop_eq_getD_cons (by omega), drop_eq_getD_cons (by omega),
      drop_eq_getD_cons (by omega), List.drop_of_length_le (by omega)]
  have hn : bytes.length - 4 = 16 + 4 * k := by omega
  unfold parse
  rw [if_pos ((sizeGood_iff _).2 ⟨k, hk, hl⟩), hn, hd]
  exact if_congr (by rw [bytesOfWord_eq_iff, crc_eq_checkOf]; exact Iff.rfl) rfl rfl

theorem parse_of_bad_size {bytes : List Byte} (h : ¬ ∃ k ≤ 16, bytes.length = 20 + 4 * k) : parse bytes = .damaged :=
  if_neg fun hs => h ((sizeGood_iff _).1 hs)

/-- A body with its check behind it is read as it stands (R26). -/
theorem parse_checked {body : List Byte} {k : Nat} (hk : k ≤ 16) (hl : body.length = 16 + 4 * k) :
    parse (body ++ bytesOfWord (crc body)) = readGood body := by
  have hb : (bytesOfWord (crc body)).length = 4 := rfl
  have hs : (body ++ bytesOfWord (crc body)).length = 20 + 4 * k := by
    rw [List.length_append, hb]
    omega
  have hn : (body ++ bytesOfWord (crc body)).length - 4 = body.length := by omega
  unfold parse
  rw [if_pos ((sizeGood_iff _).2 ⟨k, hk, hs⟩), hn, List.take_left, List.drop_left]
  exact if_pos rfl

/-! ### What is sent -/

theorem requestField_cases (r : Request) : ∃ a b c d e f, requestField r = [a, b, c, d, e, f] := by
  unfold requestField
  split
  · exact ⟨_, _, _, _, _, _, rfl⟩
  · exact ⟨_, _, _, _, _, _, rfl⟩

theorem bodyBytes_length (p : Parcel) (h : p.wf = true) : ∃ k ≤ 16, (bodyBytes p).length = 16 + 4 * k := by
  cases p with
  | hello n a b f => exact ⟨0, by omega, rfl⟩
  | credit c => exact ⟨0, by omega, rfl⟩
  | request c r =>
    have hp : r.payload.length ≤ 16 := by
      simp only [Parcel.wf, Bool.and_eq_true, decide_eq_true_eq] at h
      exact h.1
    obtain ⟨x0, x1, x2, x3, x4, x5, hf⟩ := requestField_cases r
    refine ⟨r.payload.length, hp, ?_⟩
    simp only [bodyBytes, hf, tailFill, List.length_append, List.length_cons, List.length_nil, bytesOfWords_length]
  | reply c r =>
    refine ⟨r.payload.length, by simpa [Parcel.wf] using h, ?_⟩
    simp only [bodyBytes, tailFill, List.length_append, List.length_cons, List.length_nil, bytesOfWords_length]

theorem reqKindOfCode_code (k : ReqKind) : reqKindOfCode k.code = some k := by cases k <;> rfl

theorem code_ne (k : ReqKind) : k.code ≠ helloCode ∧ k.code ≠ creditCode ∧ k.code ≠ replyCode := by
  cases k <;> decide

theorem creditsOfByte_byteOfCredits (c : Credits) : creditsOfByte (byteOfCredits c) = c := by
  unfold creditsOfByte byteOfCredits
  rw [extract_high, extract_low]

theorem readHeader_request (k : ReqKind) (b1 b2 b3 b4 b5 b6 b7 b8 b9 : Byte) (payload : List Word) :
    readHeader k.code b1 b2 b3 b4 b5 b6 b7 b8 b9 payload =
      .parcel (.request (creditsOfByte b1)
        { kind := k, tag := b2, length := b3.extractLsb' 0 5
          addr := if k.byNode then 0#48 else addrOfBytes b4 b5 b6 b7 b8 b9
          target := if k.byNode then b4 else 0#8, source := if k.byNode then b5 else 0#8
          hop := if k.byNode then b6 else 0#8, command := if k = .directive then b7 else 0#8, payload := payload }) := by
  obtain ⟨h1, h2, h3⟩ := code_ne k
  unfold readHeader
  rw [if_neg h1, if_neg h2, if_neg h3, reqKindOfCode_code]

theorem length_roundtrip (l : BitVec 5) : (l.setWidth 8).extractLsb' 0 5 = l := by
  ext i hi
  simp [BitVec.getElem_extractLsb', BitVec.getLsbD_setWidth, hi]
  omega

/-- A request that fits the format is what its header says (R28). -/
theorem readGood_request (c : Credits) (r : Request) (h : r.fieldsWf = true) :
    readGood (bodyBytes (.request c r)) = .parcel (.request c r) := by
  obtain ⟨kind, tag, length, addr, target, source, hop, command, payload⟩ := r
  simp only [Request.fieldsWf, Bool.and_eq_true, Bool.or_eq_true, beq_iff_eq] at h
  obtain ⟨hfields, hcommand⟩ := h
  cases hb : kind.byNode with
  | true =>
    rw [hb, if_pos rfl] at hfields
    have he : bodyBytes (.request c ⟨kind, tag, length, addr, target, source, hop, command, payload⟩) =
        [kind.code, byteOfCredits c, tag, length.setWidth 8, target, source, hop,
          if kind = .directive then command else 0#8, 0#8, 0#8] ++ tailFill ++ bytesOfWords payload := by
      simp only [bodyBytes, requestField, hb, if_true]
      rfl
    rw [he]
    show readHeader _ _ _ _ _ _ _ _ _ _ (wordsOfBytes (bytesOfWords payload)) = _
    rw [readHeader_request, wordsOfBytes_bytesOfWords, creditsOfByte_byteOfCredits, length_roundtrip]
    simp only [hb, if_true]
    have hc : (if kind = .directive then (if kind = .directive then command else 0#8) else 0#8) = command := by
      by_cases hk : kind = .directive
      · rw [if_pos hk, if_pos hk]
      · rw [if_neg hk, hcommand.resolve_left hk]
    rw [hc, beq_iff_eq.1 hfields]
  | false =>
    rw [hb] at hfields
    simp only [Bool.false_eq_true, if_false, Bool.and_eq_true, beq_iff_eq] at hfields
    obtain ⟨⟨rfl, rfl⟩, rfl⟩ := hfields
    have hk : kind ≠ .directive := by
      rintro rfl
      cases hb
    obtain rfl := hcommand.resolve_left hk
    have he : bodyBytes (.request c ⟨kind, tag, length, addr, 0#8, 0#8, 0#8, 0#8, payload⟩) =
        [kind.code, byteOfCredits c, tag, length.setWidth 8, addr.extractLsb' 40 8, addr.extractLsb' 32 8,
          addr.extractLsb' 24 8, addr.extractLsb' 16 8, addr.extractLsb' 8 8, addr.extractLsb' 0 8] ++ tailFill ++
          bytesOfWords payload := by
      simp only [bodyBytes, requestField, hb, Bool.false_eq_true, if_false]
      rfl
    rw [he]
    show readHeader _ _ _ _ _ _ _ _ _ _ (wordsOfBytes (bytesOfWords payload)) = _
    rw [readHeader_request, wordsOfBytes_bytesOfWords, creditsOfByte_byteOfCredits, length_roundtrip, addr_of_bytes]
    simp only [hb, Bool.false_eq_true, if_false, hk]

theorem readGood_bodyBytes (p : Parcel) (h : p.wf = true) : readGood (bodyBytes p) = .parcel p := by
  cases p with
  | hello n a b f =>
    show Received.parcel (.hello (Fin.ofNat 32 (BitVec.ofNat 8 n.val).toNat) a b
      ((if f then 1#8 else 0#8).getLsbD 0)) = _
    have hn : Fin.ofNat 32 (BitVec.ofNat 8 n.val).toNat = n := Fin.ext (by simp [Fin.ofNat])
    rw [hn]
    cases f <;> rfl
  | credit c =>
    show Received.parcel (.credit (creditsOfByte (byteOfCredits c))) = _
    rw [creditsOfByte_byteOfCredits]
  | request c r =>
    simp only [Parcel.wf, Bool.and_eq_true] at h
    exact readGood_request c r h.2
  | reply c r =>
    show Received.parcel (.reply (creditsOfByte (byteOfCredits c))
      ⟨r.tag, r.status, wordsOfBytes (bytesOfWords r.payload)⟩) = _
    rw [creditsOfByte_byteOfCredits, wordsOfBytes_bytesOfWords]

theorem parse_wireBytes (p : Parcel) (h : p.wf = true) : parse (wireBytes p) = .parcel p := by
  obtain ⟨k, hk, hl⟩ := bodyBytes_length p h
  exact (parse_checked hk hl).trans (readGood_bodyBytes p h)

/-! ### How any bytes are read -/

theorem getD_take {l : List Byte} {n i : Nat} (h : i < n) : (l.take n).getD i 0#8 = l.getD i 0#8 := by
  rw [List.getD_eq_getElem?_getD, List.getElem?_take_of_lt h, List.getD_eq_getElem?_getD]

theorem wordAt_eq (byte : Nat → Byte) (j : Nat) :
    wordAt byte (16 + 4 * j) = byte (16 + 4 * j) ++ byte (17 + 4 * j) ++ byte (18 + 4 * j) ++ byte (19 + 4 * j) := by
  rw [wordAt, show 17 + 4 * j = 16 + 4 * j + 1 by omega, show 18 + 4 * j = 16 + 4 * j + 2 by omega,
    show 19 + 4 * j = 16 + 4 * j + 3 by omega]

/-- The `k` words behind the header, by their places (R25). -/
def wordsBehind (byte : Nat → Byte) (k : Nat) : List Word := (List.range k).map fun j => wordAt byte (16 + 4 * j)

/-- A good parcel, by its header bytes and the words behind them (R25, R28). -/
theorem readGood_take {bytes : List Byte} {k : Nat} (hl : bytes.length = 20 + 4 * k) :
    readGood (bytes.take (16 + 4 * k)) =
      readHeader (bytes.getD 0 0#8) (bytes.getD 1 0#8) (bytes.getD 2 0#8) (bytes.getD 3 0#8) (bytes.getD 4 0#8)
        (bytes.getD 5 0#8) (bytes.getD 6 0#8) (bytes.getD 7 0#8) (bytes.getD 8 0#8) (bytes.getD 9 0#8)
        (wordsBehind (fun i => bytes.getD i 0#8) k) := by
  have hn : (bytes.take (16 + 4 * k)).length = 16 + 4 * k := by
    rw [List.length_take]
    omega
  have hw : wordsOfBytes ((bytes.take (16 + 4 * k)).drop 16) = wordsBehind (fun i => bytes.getD i 0#8) k := by
    rw [wordsOfBytes_drop _ 16 k hn]
    refine List.map_congr_left fun j hj => ?_
    have hj := List.mem_range.1 hj
    simp only [wordAt]
    rw [getD_take (by omega), getD_take (by omega), getD_take (by omega), getD_take (by omega)]
  rw [readGood_eq (by omega), hw, getD_take (by omega), getD_take (by omega), getD_take (by omega), getD_take (by omega),
    getD_take (by omega), getD_take (by omega), getD_take (by omega), getD_take (by omega), getD_take (by omega),
    getD_take (by omega)]

theorem creditsOfByte_toNat (b : Byte) :
    (creditsOfByte b).req.toNat = b.toNat / 16 ∧ (creditsOfByte b).rep.toNat = b.toNat % 16 := by
  have h := b.isLt
  simp only [creditsOfByte, BitVec.extractLsb'_toNat, Nat.shiftRight_eq_div_pow]
  omega

theorem readHeader_hello {n : Node} (b1 b2 b3 b4 b5 b6 b7 b8 b9 : Byte) (payload : List Word)
    (hn : n.val = b4.toNat % 32) :
    readHeader 0x01#8 b1 b2 b3 b4 b5 b6 b7 b8 b9 payload = .parcel (.hello n b5 b6 (b7.getLsbD 0)) := by
  have h : Fin.ofNat 32 b4.toNat = n := Fin.ext hn.symm
  rw [← h]
  rfl

theorem reqKindOfCode_unknown {b : Byte}
    (h : b ∉ [0x01#8, 0x02#8, 0x10#8, 0x11#8, 0x12#8, 0x13#8, 0x18#8, 0x19#8, 0x20#8, 0x21#8, 0x30#8]) :
    reqKindOfCode b = none := by
  refine List.find?_eq_none.2 fun k _ hk => h ?_
  rw [← beq_iff_eq.1 hk]
  cases k <;> decide

theorem readHeader_unknown {b0 : Byte} (b1 b2 b3 b4 b5 b6 b7 b8 b9 : Byte) (payload : List Word)
    (h : b0 ∉ [0x01#8, 0x02#8, 0x10#8, 0x11#8, 0x12#8, 0x13#8, 0x18#8, 0x19#8, 0x20#8, 0x21#8, 0x30#8]) :
    readHeader b0 b1 b2 b3 b4 b5 b6 b7 b8 b9 payload = .unknownKind := by
  unfold readHeader
  rw [if_neg fun e => h (by rw [e]; decide), if_neg fun e => h (by rw [e]; decide),
    if_neg fun e => h (by rw [e]; decide), reqKindOfCode_unknown h]

/-- The second part of O49: any bytes, by size, check and kind. -/
theorem bytes_are_read (bytes : List Byte) :
    ∃ (byte : Nat → Byte) (k : Nat) (credits : Credits) (payload : List Word) (good : Prop),
    (∀ i, byte i = bytes.getD i 0#8) ∧ k = (bytes.length - 20) / 4 ∧
    (good ↔ k ≤ 16 ∧ bytes.length = 20 + 4 * k ∧
      checkOf (bytes.take (16 + 4 * k)) =
        byte (16 + 4 * k) ++ byte (17 + 4 * k) ++ byte (18 + 4 * k) ++ byte (19 + 4 * k)) ∧
    credits.req.toNat = (byte 1).toNat / 16 ∧ credits.rep.toNat = (byte 1).toNat % 16 ∧ payload.length = k ∧
    (∀ j, j < k →
      payload[j]? = some (byte (16 + 4 * j) ++ byte (17 + 4 * j) ++ byte (18 + 4 * j) ++ byte (19 + 4 * j))) ∧
    (parse bytes = .damaged ↔ ¬ good) ∧
    (good → parse bytes =
      readHeader (byte 0) (byte 1) (byte 2) (byte 3) (byte 4) (byte 5) (byte 6) (byte 7) (byte 8) (byte 9) payload ∧
        credits = creditsOfByte (byte 1)) := by
  generalize hk : (bytes.length - 20) / 4 = k
  refine ⟨fun i => bytes.getD i 0#8, k, creditsOfByte (bytes.getD 1 0#8), wordsBehind (fun i => bytes.getD i 0#8) k,
    _, fun _ => rfl, rfl, Iff.rfl, (creditsOfByte_toNat _).1, (creditsOfByte_toNat _).2, by simp [wordsBehind],
    fun j hj => ?_, ?_, ?_⟩
  · rw [← wordAt_eq (fun i => bytes.getD i 0#8) j]
    simp [wordsBehind, hj]
  · rw [← wordAt_eq (fun i => bytes.getD i 0#8) k]
    by_cases hs : k ≤ 16 ∧ bytes.length = 20 + 4 * k
    · rw [parse_of_size hs.1 hs.2, readGood_take hs.2]
      split
      · next hc =>
        exact ⟨fun h => absurd h (readHeader_ne_damaged _ _ _ _ _ _ _ _ _ _ _), fun h => absurd ⟨hs.1, hs.2, hc⟩ h⟩
      · next hc => exact ⟨fun _ h => hc h.2.2, fun _ => rfl⟩
    · refine ⟨fun _ h => hs ⟨h.1, h.2.1⟩, fun _ => parse_of_bad_size ?_⟩
      rintro ⟨j, hj, hl⟩
      have : j = k := by omega
      exact hs ⟨this ▸ hj, this ▸ hl⟩
  · rw [← wordAt_eq (fun i => bytes.getD i 0#8) k]
    rintro ⟨h1, h2, h3⟩
    exact ⟨by rw [parse_of_size h1 h2, if_pos h3, readGood_take h2], rfl⟩

/-! ### Where zeros are sent -/

theorem wireBytes_getD {p : Parcel} {i : Nat} (h : i < (bodyBytes p).length) :
    (wireBytes p).getD i 0#8 = (bodyBytes p).getD i 0#8 := by
  unfold wireBytes
  rw [List.getD_eq_getElem?_getD, List.getElem?_append_left h, List.getD_eq_getElem?_getD]

/-- The third part of O49: the fill of each kind, and the length field of a REPLY. -/
theorem fill_is_zero (p : Parcel) (h : p.wf = true) :
    (∀ i, 10 ≤ i → i < 16 → (wireBytes p).getD i 0#8 = 0#8) ∧ ((wireBytes p).getD 3 0#8).toNat < 32 ∧
    (∀ n a b seen, p = .hello n a b seen → (wireBytes p).length = 20 ∧
      (∀ i, i ∈ [1, 2, 3, 8, 9] → (wireBytes p).getD i 0#8 = 0#8) ∧
      ((wireBytes p).getD 4 0#8).toNat < 32 ∧ ((wireBytes p).getD 7 0#8).toNat < 2) ∧
    (∀ c, p = .credit c → (wireBytes p).length = 20 ∧ ∀ i, 2 ≤ i → i < 10 → (wireBytes p).getD i 0#8 = 0#8) ∧
    (∀ c r, p = .request c r →
      (r.kind = .directive ∨ r.kind = .note → (wireBytes p).getD 8 0#8 = 0#8 ∧ (wireBytes p).getD 9 0#8 = 0#8) ∧
      (r.kind = .note → (wireBytes p).getD 7 0#8 = 0#8)) ∧
    (∀ c r, p = .reply c r → ((wireBytes p).getD 3 0#8).toNat = r.payload.length ∧
      ∀ i, 5 ≤ i → i < 10 → (wireBytes p).getD i 0#8 = 0#8) := by
  obtain ⟨k, hk, hl⟩ := bodyBytes_length p h
  have hb : ∀ i, i < 16 → (wireBytes p).getD i 0#8 = (bodyBytes p).getD i 0#8 := fun i hi => wireBytes_getD (by omega)
  cases p with
  | hello n a b f =>
    refine ⟨fun i h1 h2 => ?_, ?_, fun n' a' b' f' e => ⟨rfl, fun i hi => ?_, ?_, ?_⟩, nofun,
      nofun, nofun⟩
    · rw [hb i h2]
      interval_cases i <;> rfl
    · rw [hb 3 (by decide)]
      exact (by decide : (0#8).toNat < 32)
    · simp only [List.mem_cons, List.not_mem_nil, or_false] at hi
      rcases hi with rfl | rfl | rfl | rfl | rfl <;> rfl
    · rw [hb 4 (by decide)]
      show (BitVec.ofNat 8 n.val).toNat < 32
      rw [BitVec.toNat_ofNat]
      omega
    · rw [hb 7 (by decide)]
      show (if f then 1#8 else 0#8).toNat < 2
      cases f <;> decide
  | credit c =>
    refine ⟨fun i h1 h2 => ?_, ?_, nofun, fun _ _ => ⟨rfl, fun i h1 h2 => ?_⟩,
      nofun, nofun⟩
    · rw [hb i h2]
      interval_cases i <;> rfl
    · rw [hb 3 (by decide)]
      exact (by decide : (0#8).toNat < 32)
    · rw [hb i (by omega)]
      interval_cases i <;> rfl
  | request c r =>
    obtain ⟨x0, x1, x2, x3, x4, x5, hf⟩ := requestField_cases r
    have he : bodyBytes (.request c r) =
        [r.kind.code, byteOfCredits c, r.tag, r.length.setWidth 8, x0, x1, x2, x3, x4, x5] ++ tailFill ++
          bytesOfWords r.payload := by
      simp only [bodyBytes, hf]
      rfl
    rw [he] at hb
    refine ⟨fun i h1 h2 => ?_, ?_, nofun, nofun, fun c' r' e => ?_,
      nofun⟩
    · rw [hb i h2]
      interval_cases i <;> rfl
    · rw [hb 3 (by decide)]
      show (r.length.setWidth 8).toNat < 32
      have := r.length.isLt
      rw [BitVec.toNat_setWidth]
      omega
    · obtain ⟨rfl, rfl⟩ := Parcel.request.inj e
      rw [hb 8 (by decide), hb 9 (by decide), hb 7 (by decide)]
      show (_ → x4 = 0#8 ∧ x5 = 0#8) ∧ (_ → x3 = 0#8)
      have hnode : r.kind.byNode = true →
          requestField r = [r.target, r.source, r.hop, if r.kind = .directive then r.command else 0#8, 0#8, 0#8] :=
        fun hn => if_pos hn
      constructor
      · intro hkind
        rw [hnode (by rcases hkind with hkind | hkind <;> rw [hkind] <;> rfl)] at hf
        simp only [List.cons.injEq, and_true] at hf
        exact ⟨hf.2.2.2.2.1.symm, hf.2.2.2.2.2.symm⟩
      · intro hkind
        rw [hnode (by rw [hkind]; rfl)] at hf
        simp only [hkind, List.cons.injEq, and_true] at hf
        exact hf.2.2.2.1.symm
  | reply c r =>
    have hp : r.payload.length ≤ 16 := by simpa [Parcel.wf] using h
    have hlen : (BitVec.ofNat 8 r.payload.length).toNat = r.payload.length := by
      rw [BitVec.toNat_ofNat]
      omega
    refine ⟨fun i h1 h2 => ?_, ?_, nofun, nofun, nofun,
      fun c' r' e => ?_⟩
    · rw [hb i h2]
      interval_cases i <;> rfl
    · rw [hb 3 (by decide)]
      show (BitVec.ofNat 8 r.payload.length).toNat < 32
      omega
    · obtain ⟨rfl, rfl⟩ := Parcel.reply.inj e
      refine ⟨?_, fun i h1 h2 => ?_⟩
      · rw [hb 3 (by decide)]
        exact hlen
      · rw [hb i (by omega)]
        interval_cases i <;> rfl

/-- Settles O49: the round trip, the reading of any bytes kind by kind, and the fill. -/
theorem sentParcelsAreReadBack : Obligations.SentParcelsAreReadBack := by
  refine ⟨parse_wireBytes, fun bytes => ?_, fun p h => ⟨_, fun _ => rfl, fill_is_zero p h⟩⟩
  obtain ⟨byte, k, credits, payload, good, h1, h2, h3, h4, h5, h6, h7, h8, h9⟩ := bytes_are_read bytes
  refine ⟨byte, k, credits, payload, good, h1, h2, h3, h4, h5, h6, h7, h8, fun hg => ?_⟩
  obtain ⟨hp, rfl⟩ := h9 hg
  rw [hp]
  refine ⟨fun n h0 hn => ?_, fun h0 => ?_, fun h0 => ?_, fun kind code hm h0 => ?_, fun h0 => ?_, fun h0 => ?_, fun h0 => ?_⟩
  · rw [h0]
    exact readHeader_hello _ _ _ _ _ _ _ _ _ _ hn
  · rw [h0]
    rfl
  · rw [h0]
    rfl
  · rw [h0]
    simp only [List.mem_cons, Prod.mk.injEq, List.not_mem_nil, or_false] at hm
    rcases hm with ⟨rfl, rfl⟩ | ⟨rfl, rfl⟩ | ⟨rfl, rfl⟩ | ⟨rfl, rfl⟩ | ⟨rfl, rfl⟩ | ⟨rfl, rfl⟩
    · exact readHeader_request .fetch _ _ _ _ _ _ _ _ _ _
    · exact readHeader_request .store _ _ _ _ _ _ _ _ _ _
    · exact readHeader_request .storeC _ _ _ _ _ _ _ _ _ _
    · exact readHeader_request .swap _ _ _ _ _ _ _ _ _ _
    · exact readHeader_request .claim _ _ _ _ _ _ _ _ _ _
    · exact readHeader_request .release _ _ _ _ _ _ _ _ _ _
  · rw [h0]
    exact readHeader_request .directive _ _ _ _ _ _ _ _ _ _
  · rw [h0]
    exact readHeader_request .note _ _ _ _ _ _ _ _ _ _
  · exact readHeader_unknown _ _ _ _ _ _ _ _ _ _ h0

end Sys2Proof.Machine
end

section
/-! CERTIFICATE. A request that arrives at a fenced port of a router at rest (R13, R23, R24, R65, R68, R75, R82). -/

namespace Sys2Proof.Machine

open Sys2Proof

/-! ### Turns of a coming to rest -/

/-- A turn with one action that may be taken takes it. -/
theorem settleFor_single {n : Nat} {a : Internal} {s : State} (h : internalActions s = [a]) :
    settleFor (n + 1) s = settleFor n (doInternal a s) := by
  rw [settleFor, h]
  rfl

theorem settleFor_keeps (P : State → Prop) (n : Nat) {s : State} (h : P s)
    (keep : ∀ (a : Internal) (u : State) (k : Nat), P u → a ∈ internalActions u → P (doInternal a { u with freeUsed := k })) :
    P (settleFor n s) := by
  induction n generalizing s with
  | zero => exact h
  | succ n ih =>
    unfold settleFor
    split
    · exact h
    · next a rest e =>
      obtain ⟨b, hb, k, hk⟩ := takeOne_takes a rest s
      rw [hk]
      exact ih (keep b s k h (e ▸ hb))

/-- What internal moves keep of one record, any number of turns keeps. -/
theorem settleFor_port_keeps {P : PortRec → Prop} (keep : ∀ r q, InternalMove r q → P r → P q) (n : Nat) {s : State}
    {p : Port} (h : P (s.port p)) : P ((settleFor n s).port p) :=
  settleFor_keeps (fun u => P (u.port p)) n h fun _ _ k hu ha => (movesInternally_doInternal k ha).keeps keep hu

/-! ### A router that has nothing to send but CREDITs -/

/-- Nothing may be taken but the sending of a CREDIT (R17). -/
structure Calm (s : State) : Prop where
  examined : ∀ x, (s.port x).head ≠ .unexamined
  unmarked : ∀ x, (s.port x).recheck = false
  unplaced : replyPlaceable s = false
  ungranted : nextAtM s = none
  noReply : ∀ x, transmitterReady (s.port x) = true → replyReady (s.port x) = false
  noRequest : ∀ x, transmitterReady (s.port x) = true → requestReady s x = false

theorem quiet_iff_notMem (s : State) : Quiet s ↔ ∀ a, a ∉ internalActions s := List.eq_nil_iff_forall_not_mem

theorem Quiet.dueNow_eq_nil {s : State} (h : Quiet s) : dueNow s = [] :=
  List.eq_nil_iff_forall_not_mem.2 fun a ha => (quiet_iff_notMem s).1 h a (mem_internalActions.2 (.inl ha))

theorem Quiet.canSend_eq_false {s : State} (h : Quiet s) (x : Port) : canSend s x = false :=
  Bool.eq_false_of_not_eq_true fun hc => (quiet_iff_notMem s).1 h (.choose x)
    (mem_internalActions.2 (.inr ⟨h.dueNow_eq_nil, choose_mem_arbiterChoices.2 hc⟩))

theorem calm_of_quiet {s : State} (h : Quiet s) : Calm s := by
  have hd : ¬ ((∃ x, (s.port x).head = .unexamined) ∨ (∃ x, (s.port x).recheck = true) ∨ replyPlaceable s = true) :=
    fun hc => (dueNow_ne_nil_iff s).2 hc h.dueNow_eq_nil
  have hsend : ∀ x, transmitterReady (s.port x) = true → replyReady (s.port x) = false ∧ requestReady s x = false :=
    fun x ht => by
      have hc := h.canSend_eq_false x
      refine ⟨Bool.eq_false_of_not_eq_true fun hr => ?_, Bool.eq_false_of_not_eq_true fun hr => ?_⟩
      · rw [(canSend_iff s x).2 ⟨ht, .inl hr⟩] at hc
        cases hc
      · rw [(canSend_iff s x).2 ⟨ht, .inr (.inl hr)⟩] at hc
        cases hc
  refine ⟨fun x hx => hd (.inl ⟨x, hx⟩), fun x => Bool.eq_false_of_not_eq_true fun hx => hd (.inr (.inl ⟨x, hx⟩)),
    Bool.eq_false_of_not_eq_true fun hp => hd (.inr (.inr hp)), ?_, fun x ht => (hsend x ht).1, fun x ht => (hsend x ht).2⟩
  refine Option.not_isSome_iff_eq_none.1 fun hm => (quiet_iff_notMem s).1 h .grantM ?_
  exact mem_internalActions.2 (.inr ⟨h.dueNow_eq_nil, grantM_mem_arbiterChoices.2 hm⟩)

theorem Calm.dueNow_eq_nil {s : State} (h : Calm s) : dueNow s = [] := by
  by_contra hne
  rcases (dueNow_ne_nil_iff s).1 hne with ⟨x, hx⟩ | ⟨x, hx⟩ | hp
  · exact h.examined x hx
  · rw [h.unmarked x] at hx
    cases hx
  · rw [h.unplaced] at hp
    cases hp

/-- From `s` to `u` no output gets more to send, but for CREDITs. -/
structure NoBusier (s u : State) : Prop where
  link : ∀ x, (u.port x).link = (s.port x).link
  queue : ∀ x, (u.port x).replyQueue = (s.port x).replyQueue
  reqCredits : ∀ x, (u.port x).credits.req ≤ (s.port x).credits.req
  repCredits : ∀ x, (u.port x).credits.rep ≤ (s.port x).credits.rep
  ready : ∀ x, transmitterReady (u.port x) = true → transmitterReady (s.port x) = true
  offered : ∀ out x, offeredAt out x u = offeredAt out x s
  room : ∀ x, trackingRoom u x = trackingRoom s x
  note : u.alert = s.alert

theorem NoBusier.eligible {s u : State} (h : NoBusier s u) (out : Port) (i : Fin 7) :
    eligible u out i = eligible s out i := by
  unfold Machine.eligible noteOffered
  simp only [h.note, h.offered, h.room]

theorem NoBusier.replyPlaceable {s u : State} (h : NoBusier s u) (hm : u.mgmt = s.mgmt) :
    replyPlaceable u = replyPlaceable s := by
  unfold Machine.replyPlaceable queueHasRoom State.isUp
  simp only [hm, h.link, h.queue]

theorem NoBusier.noReply {s u : State} (h : NoBusier s u) (hs : Calm s) {x : Port}
    (ht : transmitterReady (u.port x) = true) : replyReady (u.port x) = false := by
  have hr := hs.noReply x (h.ready x ht)
  refine Bool.eq_false_of_not_eq_true fun hu => ?_
  obtain ⟨hq, hc⟩ := (replyReady_iff _).1 hu
  rw [h.queue x] at hq
  rw [(replyReady_iff _).2 ⟨hq, Nat.lt_of_lt_of_le hc (h.repCredits x)⟩] at hr
  cases hr

theorem NoBusier.noRequest {s u : State} (h : NoBusier s u) (hs : Calm s) {x : Port}
    (ht : transmitterReady (u.port x) = true) : requestReady u x = false := by
  have hr := hs.noRequest x (h.ready x ht)
  refine Bool.eq_false_of_not_eq_true fun hu => ?_
  obtain ⟨hc, i, he⟩ := (requestReady_iff u x).1 hu
  rw [h.eligible] at he
  rw [(requestReady_iff s x).2 ⟨Nat.lt_of_lt_of_le hc (h.reqCredits x), i, he⟩] at hr
  cases hr

/-- A calm router stays calm when its outputs get no busier and its heads and the Management Unit have nothing to do. -/
theorem Calm.of_noBusier {s u : State} (hs : Calm s) (h : NoBusier s u) (examined : ∀ x, (u.port x).head ≠ .unexamined)
    (unmarked : ∀ x, (u.port x).recheck = false) (unplaced : replyPlaceable u = false) (ungranted : nextAtM u = none) :
    Calm u :=
  ⟨examined, unmarked, unplaced, ungranted, fun _ ht => h.noReply hs ht, fun _ ht => h.noRequest hs ht⟩

/-- The one action of a calm router is a CREDIT, at an output that is ready. -/
theorem Calm.action {s : State} (h : Calm s) {a : Internal} (ha : a ∈ internalActions s) (k : Nat) :
    ∃ x, doInternal a { s with freeUsed := k } =
      ({ s with freeUsed := k } : State).modifyPort x fun r =>
        { r with tx := some ⟨.credit (owedCredits (s.port x)), false⟩, owed := ⟨0, 0⟩ } := by
  rcases mem_internalActions.1 ha with hd | ⟨-, hc⟩
  · rw [h.dueNow_eq_nil] at hd
    cases hd
  · rcases mem_arbiterChoices hc with rfl | ⟨x, rfl⟩
    · have hm := grantM_mem_arbiterChoices.1 hc
      rw [h.ungranted] at hm
      cases hm
    · have ht := ((canSend_iff s x).1 (choose_mem_arbiterChoices.1 hc)).1
      refine ⟨x, ?_⟩
      show chooseNext x { s with freeUsed := k } = _
      have hq : replyReady (({ s with freeUsed := k } : State).port x) = false := h.noReply x ht
      have hr : requestReady { s with freeUsed := k } x = false := h.noRequest x ht
      unfold chooseNext
      rw [hq, hr]
      rfl

/-- A router that is calm stays so, and of its ports and blocks only transmitters and owed credits change. -/
theorem Calm.settleFor {s : State} (h : Calm s) (n : Nat) :
    (settleFor n s).faultList = s.faultList ∧ (settleFor n s).mgmt = s.mgmt ∧
      ∀ x, ((settleFor n s).port x).reqLane = (s.port x).reqLane ∧ ((settleFor n s).port x).head = (s.port x).head := by
  refine (settleFor_keeps (fun u => Calm u ∧ u.faultList = s.faultList ∧ u.mgmt = s.mgmt ∧
    ∀ x, (u.port x).reqLane = (s.port x).reqLane ∧ (u.port x).head = (s.port x).head) n
    ⟨h, rfl, rfl, fun _ => ⟨rfl, rfl⟩⟩ ?_).2
  rintro a u k ⟨hu, hf, hm, hp⟩ ha
  obtain ⟨x, he⟩ := hu.action ha k
  rw [he]
  generalize hv : ({ u with freeUsed := k } : State).modifyPort x (fun r =>
    { r with tx := some ⟨.credit (owedCredits (u.port x)), false⟩, owed := ⟨0, 0⟩ }) = v
  have hport : ∀ y, ∃ tx owed, v.port y = { u.port y with tx := tx, owed := owed } ∧ (tx = (u.port y).tx ∨ tx ≠ none) := by
    intro y
    rw [← hv, State.port_modifyPort]
    split
    · exact ⟨_, _, rfl, .inr (by simp)⟩
    · exact ⟨_, _, rfl, .inl rfl⟩
  have hfields : ∀ y, (v.port y).link = (u.port y).link ∧ (v.port y).replyQueue = (u.port y).replyQueue ∧
      (v.port y).credits = (u.port y).credits ∧ (v.port y).reqLane = (u.port y).reqLane ∧
      (v.port y).head = (u.port y).head ∧ (v.port y).recheck = (u.port y).recheck := fun y => by
    obtain ⟨tx, owed, hy, -⟩ := hport y
    rw [hy]
    exact ⟨rfl, rfl, rfl, rfl, rfl, rfl⟩
  have hblocks : v = { u with ports := v.ports, freeUsed := k } := by
    rw [← hv]
    rfl
  have hbusy : NoBusier u v := by
    refine ⟨fun y => (hfields y).1, fun y => (hfields y).2.1, fun y => by rw [(hfields y).2.2.1],
      fun y => by rw [(hfields y).2.2.1], fun y hy => ?_, fun out y => ?_, fun y => ?_, ?_⟩
    · obtain ⟨tx, owed, he, rfl | hne⟩ := hport y
      · rw [he] at hy
        exact hy
      · rw [he, transmitterReady_iff] at hy
        exact absurd hy.2.1 hne
    · unfold offeredAt
      rw [(hfields y).2.2.2.1, (hfields y).2.2.2.2.1]
    · rw [hblocks]
      rfl
    · rw [hblocks]
  have hvm : v.mgmt = u.mgmt := by rw [hblocks]
  have hnext : nextAtM v = none := by
    refine Option.not_isSome_iff_eq_none.1 fun hs => ?_
    obtain ⟨hi, y, hy⟩ := (nextAtM_isSome_iff v).1 hs
    rw [offeredAtM_isSome_iff, (hfields y).2.2.2.1, (hfields y).2.2.2.2.1, ← offeredAtM_isSome_iff] at hy
    have := (nextAtM_isSome_iff u).2 ⟨hvm ▸ hi, y, hy⟩
    rw [hu.ungranted] at this
    cases this
  refine ⟨hu.of_noBusier hbusy (fun y => by rw [(hfields y).2.2.2.2.1]; exact hu.examined y)
    (fun y => by rw [(hfields y).2.2.2.2.2]; exact hu.unmarked y) ((hbusy.replyPlaceable hvm).trans hu.unplaced) hnext,
    ?_, hvm.trans hm, fun y => ⟨(hfields y).2.2.2.1.trans (hp y).1, (hfields y).2.2.2.2.1.trans (hp y).2⟩⟩
  rw [hblocks]
  exact hf

/-! ### The arrival of a request -/

/-- A request has arrived in the empty lane of `p`: its credits are taken and it is the head, not yet examined (R11, R65). -/
structure Arrived (p : Port) (c : Credits) (q : Request) (s u : State) : Prop where
  blocks : ∃ ports, u = { s with ports := ports }
  other : ∀ x, x ≠ p → u.port x = s.port x
  own : ∃ k : LanePair, u.port p = { s.port p with credits := k, reqLane := [q], head := .unexamined } ∧
    (c.req = 0#4 → k.req ≤ (s.port p).credits.req) ∧ (c.rep = 0#4 → k.rep ≤ (s.port p).credits.rep)

theorem takeCredits_port_le (p : Port) (c : Credits) (s : State) :
    ∃ k : LanePair, (takeCredits p c s).port p = { s.port p with credits := k } ∧
      (c.req = 0#4 → k.req ≤ (s.port p).credits.req) ∧ (c.rep = 0#4 → k.rep ≤ (s.port p).credits.rep) := by
  cases ho : (s.port p).offers with
  | none => exact ⟨(s.port p).credits, by rw [takeCredits_none ho], fun _ => Nat.le_refl _, fun _ => Nat.le_refl _⟩
  | some o =>
    refine ⟨_, takeCredits_port_self ho, fun hc => ?_, fun hc => ?_⟩
    · rw [hc]
      exact Nat.min_le_left _ _
    · rw [hc]
      exact Nat.min_le_left _ _

theorem arrived_storeRequest {p : Port} (c : Credits) (q : Request) {s : State} (hl : (s.port p).reqLane = []) :
    Arrived p c q s (storeRequest p q (takeCredits p c s)) := by
  obtain ⟨k, hk, h1, h2⟩ := takeCredits_port_le p c s
  refine ⟨⟨_, rfl⟩, fun x hx => ?_, k, ?_, h1, h2⟩
  · rw [storeRequest, State.port_modifyPort_of_ne _ _ hx, takeCredits_port_of_ne c s hx]
  · rw [storeRequest, State.port_modifyPort_self, hk]
    simp [hl]

theorem Arrived.mgmt {p : Port} {c : Credits} {q : Request} {s u : State} (h : Arrived p c q s u) : u.mgmt = s.mgmt := by
  obtain ⟨ports, hb⟩ := h.blocks
  rw [hb]

theorem filter_allPorts (p : Port) : (allPorts.filter fun x => x == p) = [p] := by revert p; decide

/-- The first examination of the request is the one action that may be taken (R65; log entry 15). -/
theorem Arrived.internalActions {p : Port} {c : Credits} {q : Request} {s u : State} (h : Arrived p c q s u)
    (hs : Calm s) : internalActions u = [.examine p] := by
  obtain ⟨k, hp, -⟩ := h.own
  have hhead : ∀ x, ((u.port x).head == .unexamined) = (x == p) := by
    intro x
    by_cases hx : x = p
    · subst hx
      rw [hp, beq_self_eq_true, beq_self_eq_true]
    · rw [h.other x hx, beq_eq_false_iff_ne.2 hx, beq_eq_false_iff_ne.2 (hs.examined x)]
  have hmark : ∀ x, (u.port x).recheck = false := by
    intro x
    by_cases hx : x = p
    · subst hx
      rw [hp]
      exact hs.unmarked x
    · rw [h.other x hx]
      exact hs.unmarked x
  have hplace : replyPlaceable u = false := by
    rw [← hs.unplaced]
    unfold replyPlaceable queueHasRoom State.isUp
    rw [h.mgmt]
    have hsame : ∀ x, (u.port x).link = (s.port x).link ∧ (u.port x).replyQueue = (s.port x).replyQueue := fun x => by
      by_cases hx : x = p
      · subst hx
        rw [hp]
        exact ⟨rfl, rfl⟩
      · rw [h.other x hx]
        exact ⟨rfl, rfl⟩
    simp only [(hsame _).1, (hsame _).2]
  have hdue : dueNow u = [.examine p] := by
    unfold dueNow
    simp only [hhead, hmark, hplace, filter_allPorts, List.filter_false]
    rfl
  unfold Machine.internalActions
  rw [hdue]
  rfl

/-- There is work for the examination and one turn more. -/
theorem Arrived.workLeft {p : Port} {c : Credits} {q : Request} {s u : State} (h : Arrived p c q s u) :
    ∃ n, workLeft u = n + 2 := by
  obtain ⟨k, hp, -⟩ := h.own
  have hw : 27 ≤ portWork (u.port p) := by
    rw [hp]
    simp only [portWork, List.length_singleton]
    omega
  have hle : portWork (u.port p) ≤ (allPorts.map fun x => portWork (u.port x)).sum :=
    List.single_le_sum (fun _ _ => Nat.zero_le _) _ (List.mem_map.2 ⟨p, mem_allPorts p, rfl⟩)
  refine ⟨Machine.workLeft u - 2, ?_⟩
  unfold Machine.workLeft
  omega

/-- The event of the arrival: the request is stored, examined, and what is left comes to rest. -/
theorem exec_arrival {p : Port} {bytes : List Byte} {c : Credits} {q : Request} {s : State} (hr : s.resetLow = false)
    (hs : Calm s) (hu : (s.port p).link = .up) (hl : (s.port p).reqLane = [])
    (hb : parse bytes = .parcel (.request c q)) :
    ∃ u n, Arrived p c q s u ∧
      exec (.requestParcelReceive p bytes) s = .next (settleFor (n + 1) (examineHead p u)) := by
  have h := arrived_storeRequest c q hl
  obtain ⟨n, hn⟩ := h.workLeft
  refine ⟨_, n, h, ?_⟩
  rw [execRequestParcelReceive_up hr hu hb, receiveRequest_room c q (by rw [hl]; exact Nat.succ_pos _), settle, hn,
    settleFor_single (h.internalActions hs)]
  rfl

/-- A stopped request: the fence check of the examination (R68). -/
theorem Arrived.examineHead_stopped {p : Port} {c : Credits} {q : Request} {s u : State} (h : Arrived p c q s u)
    (hf : (s.port p).fenced = true)
    (hp : ¬ (q.kind = .directive ∧ q.target.toNat = s.node.val ∧ q.command = 0x07#8 ∧ s.manager = some p)) :
    examineHead p u = stopByFence p none q u := by
  obtain ⟨k, hk, -⟩ := h.own
  obtain ⟨ports, hb⟩ := h.blocks
  have hlane : (u.port p).reqLane = q :: [] := by rw [hk]
  have hstop : fenceStops p (passesFence p q u) u = true := by
    have hpass : passesFence p q u = false := Bool.eq_false_of_not_eq_true fun hc =>
      hp (by simpa only [hb] using (passesFence_iff p q u).1 hc)
    rw [fenceStops, hpass, hk, hf]
    rfl
  unfold examineHead
  rw [hlane]
  exact if_pos hstop

theorem Arrived.examineHead_passed {p : Port} {c : Credits} {q : Request} {s u : State} (h : Arrived p c q s u)
    (hp : q.kind = .directive ∧ q.target.toNat = s.node.val ∧ q.command = 0x07#8 ∧ s.manager = some p)
    (hm : malformation q = none) :
    examineHead p u = setHead p (.offered ⟨.management, s.windows.generation⟩) u := by
  obtain ⟨k, hk, -⟩ := h.own
  obtain ⟨ports, hb⟩ := h.blocks
  have hpu : q.kind = .directive ∧ q.target.toNat = u.node.val ∧ q.command = 0x07#8 ∧ u.manager = some p := by
    rw [hb]
    exact hp
  have hposted : ¬ q.kind.posted = true := by rw [hp.1]; simp [ReqKind.posted]
  rw [examineHead_byNode (rest := []) (by rw [hk]) (.inr hpu) hm (.inl hp.1), resolveNode_own hpu.2.1, if_neg hposted, hb]

/-! ### Records that the rest of the event keeps -/

/-- An empty lane and the count of drops stay. -/
def PortRec.Dropped (drops : Nat) (r : PortRec) : Prop := r.reqLane = [] ∧ r.fencedDrops = drops

theorem dropped_of_internalMove (drops : Nat) (r q : PortRec) (m : InternalMove r q) (h : r.Dropped drops) :
    q.Dropped drops := by
  obtain ⟨hl, hd⟩ := h
  cases m with
  | counted n hne => exact absurd hl hne
  | popped _ _ he _ => rw [hl] at he; cases he
  | answerSent _ _ _ _ _ _ _ _ _ _ he => rw [hl] at he; cases he
  | _ => exact ⟨hl, hd⟩

/-- The answer stands in the Reply Queue of the port or is being sent there. -/
def PortRec.Answered (a : Reply) (r : PortRec) : Prop :=
  ⟨a, false⟩ ∈ r.replyQueue ∨ ∃ c, r.tx = some ⟨.reply c a, false⟩

/-- A reply sent takes the oldest one, so that an answer in the queue is sent or stays (R78). -/
theorem answered_replySent {a : Reply} {r : PortRec} {q : QueuedReply} {rest : List QueuedReply} (added : List QueuedReply)
    (ptr : Fin 8) (ht : transmitterReady r = true) (hq : r.replyQueue = q :: rest) (h : r.Answered a) :
    (r.replySent q rest added ptr).Answered a := by
  rcases h with h | ⟨c, hc⟩
  · rw [hq] at h
    rcases List.mem_cons.1 h with rfl | h
    · exact .inr ⟨_, rfl⟩
    · exact .inl (List.mem_append_left added h)
  · rw [transmitterReady_iff, hc] at ht
    cases ht.2.1

/-- A refused request: its lane is empty and its answer is on its way. -/
def PortRec.Refused (a : Reply) (r : PortRec) : Prop := r.reqLane = [] ∧ r.Answered a

theorem refused_of_internalMove (a : Reply) (r q : PortRec) (m : InternalMove r q) (h : r.Refused a) : q.Refused a := by
  obtain ⟨hl, ha⟩ := h
  cases m with
  | popped _ _ he _ => rw [hl] at he; cases he
  | answerSent _ _ _ _ _ _ _ _ _ _ he => rw [hl] at he; cases he
  | admitted x ptr _ _ => exact ⟨hl, ha.imp_left (List.mem_append_left [x])⟩
  | replySent x rest added ptr ht _ hq _ => exact ⟨hl, answered_replySent added ptr ht hq ha⟩
  | begun t k ptr ht =>
    refine ⟨hl, ha.elim .inl fun ⟨c, hc⟩ => ?_⟩
    rw [transmitterReady_iff, hc] at ht
    cases ht.2.1
  | _ => exact ⟨hl, ha⟩

/-- A refused request whose answer waits at the head of its lane for room in the queue (R75). -/
def PortRec.Waiting (x : Request) (a : Reply) (r : PortRec) : Prop := r.reqLane = [x] ∧ r.head = .answered none a

theorem waiting_or_refused_of_internalMove (x : Request) (a : Reply) (r q : PortRec) (m : InternalMove r q)
    (h : r.Waiting x a ∨ r.Refused a) : q.Waiting x a ∨ q.Refused a := by
  rcases h with ⟨hl, hh⟩ | h
  · cases m with
    | examined st _ hu _ => exact absurd hh (hu.not_answered none a)
    | noHead he => rw [hl] at he; cases he
    | popped _ _ _ hn => exact absurd hh (hn none a)
    | answerSent y rest res b h lane ht _ hq hb he =>
      rw [hl] at he
      rw [hh] at hb
      cases he
      cases hb
      exact .inr ⟨rfl, .inl (List.mem_append_right rest List.mem_cons_self)⟩
    | _ => exact .inl ⟨hl, hh⟩
  · exact .inr (refused_of_internalMove a r q m h)

/-- A waiting answer with a full queue that can send nothing: no internal action moves it (R78, R83). -/
def PortRec.Stuck (x : Request) (a : Reply) (queue : List QueuedReply) (r : PortRec) : Prop :=
  r.Waiting x a ∧ r.replyQueue = queue ∧ (transmitterReady r = false ∨ r.credits.rep = 0)

theorem stuck_of_internalMove {x : Request} {a : Reply} {queue : List QueuedReply} (hlen : 8 ≤ queue.length)
    (r q : PortRec) (m : InternalMove r q) (h : r.Stuck x a queue) : q.Stuck x a queue := by
  obtain ⟨⟨hl, hh⟩, hq, hc⟩ := h
  have never : ∀ {P : Prop}, transmitterReady r = true → 0 < r.credits.rep → P := fun ht hp => by
    rcases hc with hc | hc
    · rw [ht] at hc
      cases hc
    · omega
  cases m with
  | examined st _ hu _ => exact absurd hh (hu.not_answered none a)
  | noHead he => rw [hl] at he; cases he
  | popped _ _ _ hn => exact absurd hh (hn none a)
  | admitted y ptr _ hroom => rw [hq] at hroom; omega
  | replySent y rest added ptr ht hp _ _ => exact never ht hp
  | answerSent y rest res b h lane ht hp _ _ _ => exact never ht hp
  | begun t k ptr ht => exact ⟨⟨hl, hh⟩, hq, .inl (by simp [transmitterReady])⟩
  | _ => exact ⟨⟨hl, hh⟩, hq, hc⟩

/-! ### The states after the examination -/

theorem offeredAt_nil {out x : Port} {s : State} (h : (s.port x).reqLane = []) : offeredAt out x s = none := by
  unfold offeredAt
  rw [h]

theorem offeredAt_management {out x : Port} {s : State} {g : BitVec 16}
    (h : (s.port x).head = .offered ⟨.management, g⟩) : offeredAt out x s = none := by
  refine Option.eq_none_iff_forall_ne_some.2 fun ⟨q, res⟩ he => ?_
  obtain ⟨-, hh, ho⟩ := offeredAt_eq_some.1 he
  rw [h] at hh
  cases hh
  cases ho

/-- What the arrival of a request with no credits may have changed at `p` makes no output busier, if `p` offers none. -/
theorem noBusier_of_own {p : Port} {s v : State}
    (blocks : ∃ ports mgmt ptr, v = { s with ports := ports, mgmt := mgmt, mPointer := ptr })
    (other : ∀ x, x ≠ p → v.port x = s.port x)
    (own : ∃ (k owed : LanePair) (lane : List Request) (head : HeadState) (mark : Bool) (drops : Nat),
      v.port p = { s.port p with credits := k, owed := owed, reqLane := lane, head := head, recheck := mark,
                                 fencedDrops := drops } ∧
      k.req ≤ (s.port p).credits.req ∧ k.rep ≤ (s.port p).credits.rep)
    (hl : (s.port p).reqLane = []) (none : ∀ out, offeredAt out p v = none) : NoBusier s v := by
  obtain ⟨ports, mgmt, ptr, hv⟩ := blocks
  obtain ⟨k, owed, lane, head, mark, drops, hp, h1, h2⟩ := own
  have fields : ∀ x, (v.port x).link = (s.port x).link ∧ (v.port x).replyQueue = (s.port x).replyQueue ∧
      (v.port x).credits.req ≤ (s.port x).credits.req ∧ (v.port x).credits.rep ≤ (s.port x).credits.rep ∧
      transmitterReady (v.port x) = transmitterReady (s.port x) := fun x => by
    by_cases hx : x = p
    · subst hx
      rw [hp]
      exact ⟨rfl, rfl, h1, h2, rfl⟩
    · rw [other x hx]
      exact ⟨rfl, rfl, Nat.le_refl _, Nat.le_refl _, rfl⟩
  refine ⟨fun x => (fields x).1, fun x => (fields x).2.1, fun x => (fields x).2.2.1, fun x => (fields x).2.2.2.1,
    fun x hx => (fields x).2.2.2.2 ▸ hx, fun out x => ?_, fun x => ?_, by rw [hv]⟩
  · by_cases hx : x = p
    · subst hx
      rw [none out, offeredAt_nil hl]
    · unfold offeredAt
      rw [other x hx]
  · rw [hv]
    rfl

section
variable {p : Port} {c : Credits} {q : Request} {s u : State}

theorem Arrived.dropped_port (h : Arrived p c q s u) :
    ∃ k owed : LanePair,
      (popHead p (countFencedDrop p u)).port p =
        { s.port p with credits := k, owed := owed, reqLane := [], head := .empty, recheck := false,
                        fencedDrops := min ((s.port p).fencedDrops + 1) 65535 } ∧
      (c.req = 0#4 → k.req ≤ (s.port p).credits.req) ∧ (c.rep = 0#4 → k.rep ≤ (s.port p).credits.rep) := by
  obtain ⟨k, hk, h1, h2⟩ := h.own
  refine ⟨k, { (s.port p).owed with req := min ((s.port p).owed.req + 1) 12 }, ?_, h1, h2⟩
  rw [countFencedDrop, popHead_port_cons (h := q) (rest := []) (by rw [State.port_modifyPort_self, hk]),
    State.port_modifyPort_self, hk]
  rfl

/-- After a posted request without credits has been dropped, nothing but CREDITs is to be sent (R24). -/
theorem Arrived.calm_dropped (h : Arrived p c q s u) (hs : Calm s) (hl : (s.port p).reqLane = [])
    (hc : c = ⟨0#4, 0#4⟩) :
    Calm (popHead p (countFencedDrop p u)) := by
  obtain ⟨k, owed, hp, h1, h2⟩ := h.dropped_port
  obtain ⟨ports, hb⟩ := h.blocks
  have hblocks : ∃ ports, popHead p (countFencedDrop p u) =
      { s with ports := ports } := ⟨_, by rw [hb]; rfl⟩
  have hother : ∀ x, x ≠ p →
      (popHead p (countFencedDrop p u)).port x = s.port x :=
    fun x hx => by rw [popHead_port_of_ne hx, countFencedDrop, State.port_modifyPort_of_ne _ _ hx, h.other x hx]
  generalize popHead p (countFencedDrop p u) = v at *
  obtain ⟨ports', hv⟩ := hblocks
  have hnil : (v.port p).reqLane = [] := by rw [hp]
  have hbusy : NoBusier s v := noBusier_of_own ⟨ports', s.mgmt, s.mPointer, hv⟩ hother
    ⟨k, owed, _, _, _, _, hp, h1 (by rw [hc]), h2 (by rw [hc])⟩ hl fun out => offeredAt_nil hnil
  have hm : v.mgmt = s.mgmt := by rw [hv]
  refine hs.of_noBusier hbusy (fun x => ?_) (fun x => ?_) ((hbusy.replyPlaceable hm).trans hs.unplaced)
    (Option.not_isSome_iff_eq_none.1 fun hn => ?_)
  · by_cases hx : x = p
    · subst hx
      rw [hp]
      simp
    · rw [hother x hx]
      exact hs.examined x
  · by_cases hx : x = p
    · subst hx
      rw [hp]
    · rw [hother x hx]
      exact hs.unmarked x
  · obtain ⟨hi, x, hx⟩ := (nextAtM_isSome_iff v).1 hn
    by_cases hxp : x = p
    · subst hxp
      obtain ⟨_, _, _, hlane, -⟩ := (offeredAtM_isSome_iff x v).1 hx
      rw [hnil] at hlane
      cases hlane
    · rw [offeredAtM_isSome_iff, hother x hxp, ← offeredAtM_isSome_iff] at hx
      have := (nextAtM_isSome_iff s).2 ⟨hm ▸ hi, x, hx⟩
      rw [hs.ungranted] at this
      cases this

theorem Arrived.offered_port (h : Arrived p c q s u) (g : BitVec 16) :
    ∃ k : LanePair, (setHead p (.offered ⟨.management, g⟩) u).port p =
        { s.port p with credits := k, reqLane := [q], head := .offered ⟨.management, g⟩, recheck := false } ∧
      (c.req = 0#4 → k.req ≤ (s.port p).credits.req) ∧ (c.rep = 0#4 → k.rep ≤ (s.port p).credits.rep) := by
  obtain ⟨k, hk, h1, h2⟩ := h.own
  refine ⟨k, ?_, h1, h2⟩
  rw [setHead, State.port_modifyPort_self, hk]

theorem Arrived.offered_other (h : Arrived p c q s u) (g : BitVec 16) {x : Port} (hx : x ≠ p) :
    (setHead p (.offered ⟨.management, g⟩) u).port x = s.port x := by
  rw [setHead, State.port_modifyPort_of_ne _ _ hx, h.other x hx]

/-- With a directive of no credits offered to the Management Unit no output gets more to send. -/
theorem Arrived.noBusier_offered (h : Arrived p c q s u) (hl : (s.port p).reqLane = []) (hc : c = ⟨0#4, 0#4⟩)
    (g : BitVec 16) : NoBusier s (setHead p (.offered ⟨.management, g⟩) u) := by
  obtain ⟨k, hp, h1, h2⟩ := h.offered_port g
  obtain ⟨ports, hb⟩ := h.blocks
  exact noBusier_of_own ⟨_, s.mgmt, s.mPointer, by rw [hb]; rfl⟩ (fun x hx => h.offered_other g hx)
    ⟨k, (s.port p).owed, _, _, _, (s.port p).fencedDrops, hp, h1 (by rw [hc]), h2 (by rw [hc])⟩ hl
    fun out => offeredAt_management (by rw [hp])

theorem Arrived.offered_settled (h : Arrived p c q s u) (hs : Calm s) (g : BitVec 16) (x : Port) :
    ((setHead p (.offered ⟨.management, g⟩) u).port x).head ≠ .unexamined ∧
      ((setHead p (.offered ⟨.management, g⟩) u).port x).recheck = false := by
  by_cases hx : x = p
  · subst hx
    obtain ⟨k, hp, -⟩ := h.offered_port g
    rw [hp]
    exact ⟨by simp, rfl⟩
  · rw [h.offered_other g hx]
    exact ⟨hs.examined x, hs.unmarked x⟩

/-- While the Management Unit is busy the directive waits for it (R82). -/
theorem Arrived.calm_offered (h : Arrived p c q s u) (hs : Calm s) (hl : (s.port p).reqLane = [])
    (hc : c = ⟨0#4, 0#4⟩) (hm : s.mgmt ≠ .idle) (g : BitVec 16) :
    Calm (setHead p (.offered ⟨.management, g⟩) u) := by
  have hbusy := h.noBusier_offered hl hc g
  have hmu : (setHead p (.offered ⟨.management, g⟩) u).mgmt = s.mgmt := h.mgmt
  refine hs.of_noBusier hbusy (fun x => (h.offered_settled hs g x).1) (fun x => (h.offered_settled hs g x).2)
    ((hbusy.replyPlaceable hmu).trans hs.unplaced) (Option.not_isSome_iff_eq_none.1 fun hn => ?_)
  exact hm (hmu ▸ ((nextAtM_isSome_iff _).1 hn).1)

/-- An IDLE Management Unit is granted the directive, which is the only one offered to it (R82). -/
theorem Arrived.grantM_offered (h : Arrived p c q s u) (hs : Calm s) (hm : s.mgmt = .idle) (g : BitVec 16) :
    nextAtM (setHead p (.offered ⟨.management, g⟩) u) = some p ∧
      grantM (setHead p (.offered ⟨.management, g⟩) u) =
        { popHead p (setHead p (.offered ⟨.management, g⟩) u) with
          mgmt := .executing (directiveOf p q), mPointer := p } := by
  obtain ⟨k, hp, -⟩ := h.offered_port g
  have hother := fun x (hx : x ≠ p) => h.offered_other g hx
  have hmu : (setHead p (.offered ⟨.management, g⟩) u).mgmt = .idle := h.mgmt.trans hm
  generalize setHead p (.offered ⟨.management, g⟩) u = v at *
  have hown : offeredAtM p v = some q := offeredAtM_eq_some.2 ⟨⟨[], by rw [hp]⟩, g, by rw [hp]⟩
  have honly : ∀ x, (offeredAtM x v).isSome = true → x = p := fun x hx => by
    by_contra hne
    rw [offeredAtM_isSome_iff, hother x hne, ← offeredAtM_isSome_iff] at hx
    have := (nextAtM_isSome_iff s).2 ⟨hm, x, hx⟩
    rw [hs.ungranted] at this
    cases this
  have hnext : nextAtM v = some p := by
    obtain ⟨x, hx⟩ := Option.isSome_iff_exists.1 ((nextAtM_isSome_iff v).2 ⟨hmu, p, by rw [hown]; rfl⟩)
    rw [hx]
    unfold nextAtM at hx
    rw [hmu] at hx
    exact congrArg some (honly x (List.find?_some (p := fun y => (offeredAtM y v).isSome) hx))
  refine ⟨hnext, ?_⟩
  unfold grantM
  rw [hnext]
  dsimp only
  rw [hown]

/-- The grant is the one action that may be taken (R82). -/
theorem Arrived.internalActions_offered (h : Arrived p c q s u) (hq : Quiet s) (hl : (s.port p).reqLane = [])
    (hc : c = ⟨0#4, 0#4⟩) (hm : s.mgmt = .idle) (g : BitVec 16) :
    Machine.internalActions (setHead p (.offered ⟨.management, g⟩) u) = [.grantM] := by
  have hs := calm_of_quiet hq
  have hbusy := h.noBusier_offered hl hc g
  have hmu : (setHead p (.offered ⟨.management, g⟩) u).mgmt = s.mgmt := h.mgmt
  have hdue : dueNow (setHead p (.offered ⟨.management, g⟩) u) = [] := by
    by_contra hne
    rcases (dueNow_ne_nil_iff _).1 hne with ⟨x, hx⟩ | ⟨x, hx⟩ | hp
    · exact (h.offered_settled hs g x).1 hx
    · rw [(h.offered_settled hs g x).2] at hx
      cases hx
    · rw [hbusy.replyPlaceable hmu, hs.unplaced] at hp
      cases hp
  have howed : ∀ x, ((setHead p (.offered ⟨.management, g⟩) u).port x).owed = (s.port x).owed := fun x => by
    by_cases hx : x = p
    · subst hx
      obtain ⟨k, hp, -⟩ := h.offered_port g
      rw [hp]
    · rw [h.offered_other g hx]
  have hsend : ∀ x, canSend (setHead p (.offered ⟨.management, g⟩) u) x = false := fun x => by
    refine Bool.eq_false_of_not_eq_true fun hcs => ?_
    have hns := hq.canSend_eq_false x
    obtain ⟨ht, hr | hr | hr⟩ := (canSend_iff _ x).1 hcs
    · rw [hbusy.noReply hs ht] at hr
      cases hr
    · rw [hbusy.noRequest hs ht] at hr
      cases hr
    · have howes : creditsOwed (s.port x) = true := by
        unfold creditsOwed at hr ⊢
        rw [← howed x]
        exact hr
      rw [(canSend_iff s x).2 ⟨hbusy.ready x ht, .inr (.inr howes)⟩] at hns
      cases hns
  unfold Machine.internalActions arbiterChoices
  rw [hdue, (h.grantM_offered hs hm g).1]
  simp [hsend]

/-- After the grant nothing but CREDITs is to be sent. -/
theorem Arrived.calm_granted (h : Arrived p c q s u) (hs : Calm s) (hl : (s.port p).reqLane = [])
    (hc : c = ⟨0#4, 0#4⟩) (g : BitVec 16) (d : Directive) :
    Calm { popHead p (setHead p (.offered ⟨.management, g⟩) u) with mgmt := .executing d, mPointer := p } ∧
      (({ popHead p (setHead p (.offered ⟨.management, g⟩) u) with mgmt := .executing d, mPointer := p } : State).port
        p).reqLane = [] := by
  obtain ⟨k, hp, h1, h2⟩ := h.offered_port g
  have hother := fun x (hx : x ≠ p) => h.offered_other g hx
  obtain ⟨ports, hb⟩ := h.blocks
  have hblocks : ∃ ports, setHead p (.offered ⟨.management, g⟩) u = { s with ports := ports } := ⟨_, by rw [hb]; rfl⟩
  generalize setHead p (.offered ⟨.management, g⟩) u = v at *
  obtain ⟨ports', hv⟩ := hblocks
  have hpv := popHead_port_cons (p := p) (s := v) (h := q) (rest := []) (by rw [hp])
  rw [hp] at hpv
  have hothers : ∀ x, x ≠ p →
      ({ popHead p v with mgmt := .executing d, mPointer := p } : State).port x = s.port x := fun x hx =>
    (popHead_port_of_ne hx v).trans (hother x hx)
  have hblocks2 : ∃ ports, ({ popHead p v with mgmt := .executing d, mPointer := p } : State) =
      { s with ports := ports, mgmt := .executing d, mPointer := p } := ⟨_, by rw [hv]; rfl⟩
  have hpw : ({ popHead p v with mgmt := .executing d, mPointer := p } : State).port p = _ := hpv
  have hmw : ({ popHead p v with mgmt := .executing d, mPointer := p } : State).mgmt = .executing d := rfl
  generalize ({ popHead p v with mgmt := .executing d, mPointer := p } : State) = w at *
  obtain ⟨ports2, hw⟩ := hblocks2
  have hnil : (w.port p).reqLane = [] := by rw [hpw]
  have hbusy : NoBusier s w := noBusier_of_own ⟨ports2, _, _, hw⟩ hothers
    ⟨k, _, _, _, _, (s.port p).fencedDrops, hpw, h1 (by rw [hc]), h2 (by rw [hc])⟩ hl fun out => offeredAt_nil hnil
  refine ⟨hs.of_noBusier hbusy (fun x => ?_) (fun x => ?_) ?_ ?_, hnil⟩
  · by_cases hx : x = p
    · subst hx
      rw [hpw]
      simp [headAfter]
    · rw [hothers x hx]
      exact hs.examined x
  · by_cases hx : x = p
    · subst hx
      rw [hpw]
    · rw [hothers x hx]
      exact hs.unmarked x
  · unfold replyPlaceable
    rw [hmw]
  · unfold nextAtM
    rw [hmw]

/-- The answer of a refused request with room in the queue has joined it (R75). -/
theorem Arrived.refused (h : Arrived p c q s u) (hu : (s.port p).link = .up) (hroom : (s.port p).replyQueue.length < 8)
    (res : Option Resolution) (a : Reply) : ((offerAnswer p res a u).port p).Refused a := by
  obtain ⟨k, hk, -⟩ := h.own
  have hr : queueHasRoom u p = true := (queueHasRoom_iff u p).2 (by rw [hk]; exact ⟨hu, hroom⟩)
  unfold offerAnswer
  rw [if_pos hr, popHead_port_cons (h := q) (rest := []) (by rw [admitClaimant_port_self, hk]), admitClaimant_port_self]
  exact ⟨rfl, .inl (List.mem_append_right _ List.mem_cons_self)⟩

/-- The answer of a refused request with no room waits at the head of the lane (R75). -/
theorem Arrived.answered_port (h : Arrived p c q s u) (hfull : 8 ≤ (s.port p).replyQueue.length) (a : Reply) :
    ∃ k : LanePair, (offerAnswer p none a u).port p =
        { s.port p with credits := k, reqLane := [q], head := .answered none a, recheck := false } ∧
      (c.rep = 0#4 → k.rep ≤ (s.port p).credits.rep) := by
  obtain ⟨k, hk, -, h2⟩ := h.own
  have hr : ¬ queueHasRoom u p = true := fun hr => by
    have := ((queueHasRoom_iff u p).1 hr).2
    rw [hk] at this
    exact absurd this (Nat.not_lt.2 hfull)
  refine ⟨k, ?_, h2⟩
  unfold offerAnswer
  rw [if_neg hr, State.port_modifyPort_self, hk]

end

/-- Settles O25: the examination of the request, and what the rest of the event keeps of it. -/
theorem fencedPortsTakeNoRequests : Obligations.FencedPortsTakeNoRequests := by
  intro p bytes c q s hr hquiet hu hf hl hb
  have hs := calm_of_quiet hquiet
  obtain ⟨u, n, h, he⟩ := exec_arrival hr hs hu hl hb
  refine ⟨_, Iff.rfl, fun hk => ?_, fun h1 h2 hp hroom => ?_, fun h1 h2 hp hfull => ?_, fun hp hm hc => ?_⟩
  · have hp : ¬ (q.kind = .directive ∧ q.target.toNat = s.node.val ∧ q.command = 0x07#8 ∧ s.manager = some p) := by
      rintro ⟨hd, -⟩
      rw [hd] at hk
      simp at hk
    rw [h.examineHead_stopped hf hp, stopByFence, if_pos ((posted_iff _).2 hk)] at he
    obtain ⟨k, owed, hport, -⟩ := h.dropped_port
    obtain ⟨hlane, hdrops⟩ := settleFor_port_keeps
      (dropped_of_internalMove (min ((s.port p).fencedDrops + 1) 65535)) (n + 1) (p := p)
      (s := popHead p (countFencedDrop p u))
      (by rw [hport]; exact ⟨rfl, rfl⟩)
    refine ⟨_, he, hlane, hdrops, fun hc => ?_⟩
    obtain ⟨ports, hblocks⟩ := h.blocks
    rw [((h.calm_dropped hs hl hc).settleFor (n + 1)).1, hblocks]
    rfl
  · rw [h.examineHead_stopped hf hp, stopByFence_refused h1 h2] at he
    exact ⟨_, he, settleFor_port_keeps (refused_of_internalMove _) (n + 1) (h.refused hu hroom none _)⟩
  · rw [h.examineHead_stopped hf hp, stopByFence_refused h1 h2] at he
    obtain ⟨k, hport, hle⟩ := h.answered_port hfull ⟨q.tag, 0x13#8, []⟩
    refine ⟨_, _, he, Iff.rfl, settleFor_port_keeps (waiting_or_refused_of_internalMove q _) (n + 1)
      (.inl (by rw [hport]; exact ⟨rfl, rfl⟩)), fun hc => ?_⟩
    have hstuck : ((offerAnswer p none ⟨q.tag, 0x13#8, []⟩ u).port p).Stuck q ⟨q.tag, 0x13#8, []⟩
        (s.port p).replyQueue := by
      rw [hport]
      refine ⟨⟨rfl, rfl⟩, rfl, ?_⟩
      cases ht : transmitterReady (s.port p) with
      | false => exact .inl ht
      | true =>
        refine .inr (Nat.eq_zero_of_not_pos fun hpos => ?_)
        have hnr := hs.noReply p ht
        rw [(replyReady_iff _).2 ⟨fun e => by rw [e] at hfull; simp at hfull, Nat.lt_of_lt_of_le hpos (hle hc)⟩] at hnr
        cases hnr
    have hend := settleFor_port_keeps (stuck_of_internalMove hfull) (n + 1) hstuck
    exact ⟨hend.1, hend.2.1⟩
  · rw [h.examineHead_passed hp hm] at he
    refine ⟨_, he, fun hi => ?_, fun hi => ?_⟩
    · rw [settleFor_single (h.internalActions_offered hquiet hl hc hi _)]
      show ((settleFor n (grantM _)).port p).reqLane = [] ∧ (settleFor n (grantM _)).mgmt = _
      rw [(h.grantM_offered hs hi _).2]
      obtain ⟨hcalm, hlane⟩ := h.calm_granted hs hl hc s.windows.generation (directiveOf p q)
      obtain ⟨-, hmgmt, hports⟩ := hcalm.settleFor n
      exact ⟨(hports p).1.trans hlane, hmgmt⟩
    · obtain ⟨-, hmgmt, hports⟩ := (h.calm_offered hs hl hc hi s.windows.generation).settleFor (n + 1)
      obtain ⟨k, hport, -⟩ := h.offered_port s.windows.generation
      exact ⟨(hports p).1.trans (by rw [hport]), (hports p).2.trans (by rw [hport]), hmgmt.trans h.mgmt⟩

end Sys2Proof.Machine
end

end

section
-- One thread for all theorems: a thread for each takes a stack of its own, and there is no room for them all.
set_option Elab.async false

section
/-! CERTIFICATE. The grant of a request at an output: the candidates that are gone through, and what each of them comes to
(R79, R80, R81). -/

namespace Sys2Proof.Machine

open Sys2Proof

/-- The `j`-th member of the cyclic order after `k` (R79). -/
theorem cyclicAfter_getElem? {n : Nat} [NeZero n] (k j : Fin n) : (cyclicAfter k)[j.val]? = some (k + 1 + j) := by
  have hj : (List.range n)[j.val]? = some j.val := by simp
  rw [cyclicAfter, List.getElem?_map, hj]
  simp only [Option.map_some, Option.some.injEq]
  apply Fin.ext
  simp [Fin.val_add]

/-! ### Going through the candidates -/

theorem tryInputs_skip {out : Port} {before : List (Fin 7)} (after : List (Fin 7)) {s : State}
    (h : ∀ j ∈ before, eligible s out j = false) : tryInputs out (before ++ after) s = tryInputs out after s := by
  induction before with
  | nil => rfl
  | cons j before ih =>
    obtain ⟨hj, h⟩ := List.forall_mem_cons.1 h
    show tryInputs out (j :: (before ++ after)) s = _
    rw [tryInputs, hj, ← ih h]
    rfl

theorem tryInputs_none {out : Port} {order : List (Fin 7)} {s : State} (h : ∀ j ∈ order, eligible s out j = false) :
    tryInputs out order s = s := by
  simpa [tryInputs] using tryInputs_skip [] h

theorem tryInputs_granted {out : Port} {i : Fin 7} (after : List (Fin 7)) {s t : State} (he : eligible s out i = true)
    (ht : tryInput out i s = .granted t) : tryInputs out (i :: after) s = t := by
  rw [tryInputs, he, ht]
  rfl

theorem tryInputs_passed {out : Port} {i : Fin 7} (after : List (Fin 7)) {s t : State} (he : eligible s out i = true)
    (ht : tryInput out i s = .passed t) : tryInputs out (i :: after) s = tryInputs out after t := by
  rw [tryInputs, he, ht]
  rfl

/-- With no reply to send, a request credit and an eligible input, the arbiter goes through the inputs after its pointer
(R78, R79). -/
theorem chooseNext_request {out : Port} {i : Fin 7} {s : State}
    (hr : (s.port out).replyQueue = [] ∨ (s.port out).credits.rep = 0) (hc : 0 < (s.port out).credits.req)
    (he : eligible s out i = true) : chooseNext out s = tryInputs out (cyclicAfter (s.port out).arbPointer) s := by
  have hreply : ¬ replyReady (s.port out) = true := by
    rw [replyReady_iff]
    rintro ⟨hq, hp⟩
    rcases hr with h | h
    · exact hq h
    · omega
  rw [chooseNext, if_neg hreply, if_pos ((requestReady_iff s out).2 ⟨hc, i, he⟩)]

/-! ### The candidate of one input -/

/-- An entry is given only where a non-posted head is eligible (R74, R89). -/
theorem trackingRoom_of_entry {s : State} {x : Port} {tag : Tag} {j : Fin 64} (h : allocate s x tag = .entry j) :
    trackingRoom s x = true := by
  unfold allocate at h
  split at h
  · cases h
  · split at h
    · cases h
    · next hf =>
      split at h
      · cases h
      · next hq =>
        rw [trackingRoom, hf]
        simpa using hq

theorem eligible_of_entry {s : State} {out x : Port} {i : Fin 7} {h : Request} {res : Resolution} {j : Fin 64}
    (hi : i.val = x.val) (ho : offeredAt out x s = some (h, res)) (ha : allocate s x h.tag = .entry j) :
    eligible s out i = true :=
  (eligible_iff hi).2 ⟨h, res, ho, .inr (trackingRoom_of_entry ha)⟩

/-- A head that no entry tracks is granted at once (R79). -/
theorem tryInput_untracked {s : State} {out x : Port} {i : Fin 7} {h : Request} {res : Resolution} (hi : i.val = x.val)
    (ho : offeredAt out x s = some (h, res)) (hk : trackKind h.kind res.route = none) :
    tryInput out i s = .granted (grantHead out x i (outboundRequest h res.route h.tag) s) := by
  simp only [tryInput, hi, portOfNat_fin, ho, hk]

/-- A tracked head is granted with the entry it is given, whose index is its tag (R79, R90). -/
theorem tryInput_entry {s : State} {out x : Port} {i : Fin 7} {h : Request} {res : Resolution} {k : TrackKind}
    {j : Fin 64} (hi : i.val = x.val) (ho : offeredAt out x s = some (h, res))
    (hk : trackKind h.kind res.route = some k) (ha : allocate s x h.tag = .entry j) :
    tryInput out i s = .granted (grantHead out x i (outboundRequest h res.route (BitVec.ofNat 8 j.val))
      (setEntry j (some (newEntry s x out h res k)) s)) := by
  simp only [tryInput, hi, portOfNat_fin, ho, hk, ha]

/-- A tracked head whose tag is in use is refused (R80). -/
theorem tryInput_tagInUse {s : State} {out x : Port} {i : Fin 7} {h : Request} {res : Resolution} (hi : i.val = x.val)
    (ho : offeredAt out x s = some (h, res)) (hk : (trackKind h.kind res.route).isSome = true)
    (ha : allocate s x h.tag = .tagInUse) :
    tryInput out i s = .passed (offerAnswer x (some res) ⟨h.tag, 0x14#8, []⟩ s) := by
  obtain ⟨k, hk⟩ := Option.isSome_iff_exists.1 hk
  simp only [tryInput, hi, portOfNat_fin, ho, hk, ha]
  rfl

/-- The alert note is granted as input M (R81). -/
theorem tryInput_note {s : State} {out : Port} {q : QueuedNote} (hq : s.alert.queued = some q) (ho : q.out = out)
    (hs : q.sending = false) : tryInput out 6 s = .granted (grantNote out q s) := by
  have hm : portOfNat (6 : Fin 7).val = none := by decide
  have hn : noteOffered out s = some q := by simp [noteOffered, hq, ho, hs]
  simp only [tryInput, hm, hn]

/-! ### What a grant does -/

/-- A grant is one change of the output's record: the parcel with the owed credits, the credit and the pointer (R15, R17,
R79). -/
theorem beginGrant_eq (out : Port) (i : Fin 7) (r : Request) (s : State) :
    beginGrant out i r s = s.modifyPort out fun q =>
      { q with tx := some ⟨.request ⟨BitVec.ofNat 4 q.owed.req, BitVec.ofNat 4 q.owed.rep⟩ r, false⟩,
               owed := ⟨0, 0⟩, credits := { q.credits with req := q.credits.req - 1 }, arbPointer := i } := by
  unfold beginGrant takeRequestCredit beginParcel
  rw [State.modifyPort_modifyPort, State.modifyPort_modifyPort]
  exact State.modifyPort_congr rfl

/-- Settles O31: the candidates before the first eligible one are passed over, and that one by what its head is. -/
theorem requestsAreGrantedInTurn : Obligations.RequestsAreGrantedInTurn := by
  refine ⟨cyclicAfter_getElem?, fun out order s => tryInputs_none, fun out i before after s chosen hch hb => ?_⟩
  have hgo (he : eligible s out i = true) : chosen = tryInputs out (i :: after) s := by
    rcases hch with rfl | ⟨rfl, hr, hc, ho⟩
    · exact tryInputs_skip _ hb
    · rw [chooseNext_request hr hc he, ho, tryInputs_skip _ hb]
  have hgrant {t : State} (he : eligible s out i = true) (ht : tryInput out i s = .granted t) : chosen = t :=
    (hgo he).trans (tryInputs_granted after he ht)
  refine ⟨beginGrant out i, beginGrant_eq out i, fun x h rest res hx hl hh => ?_, fun q h6 hq ho hs => ?_⟩
  · have hi : i.val = x.val := hx.symm
    obtain ⟨route, g⟩ := res
    have hoff (ho : route.output = some out) : offeredAt out x s = some (h, ⟨route, g⟩) :=
      offeredAt_eq_some.2 ⟨⟨rest, hl⟩, hh, ho⟩
    have posted (ho : route.output = some out) (hp : h.kind.posted = true) : eligible s out i = true :=
      (eligible_iff hi).2 ⟨h, _, hoff ho, .inl hp⟩
    refine ⟨fun w addr hk hr => ?_, fun n hk hr => ?_, fun w addr k j hk hr ha => ?_, fun n j hk hr ha => ?_,
      fun he ht ho ha => ?_⟩
    · obtain rfl : route = .memory w out addr := hr
      have hc := hgrant (posted rfl (by rw [hk]; rfl)) (tryInput_untracked hi (hoff rfl) (by rw [hk]; rfl))
      exact hc
    · obtain rfl : route = .forward out n := hr
      have hc := hgrant (posted rfl (by rw [hk]; rfl)) (tryInput_untracked hi (hoff rfl) (by rw [hk]; rfl))
      exact hc
    · obtain rfl : route = .memory w out addr := hr
      have ht : trackKind h.kind (.memory w out addr) = some k := by
        obtain ⟨h1, h2⟩ | ⟨h1, h2⟩ | ⟨h1, h2⟩ := hk <;> rw [h1, h2] <;> rfl
      have hc := hgrant (eligible_of_entry hi (hoff rfl) ha) (tryInput_entry hi (hoff rfl) ht ha)
      exact hc
    · obtain rfl : route = .forward out n := hr
      have ht : trackKind h.kind (.forward out n) = some (.directive n) := by rw [hk]; rfl
      have hc := hgrant (eligible_of_entry hi (hoff rfl) ha) (tryInput_entry hi (hoff rfl) ht ha)
      exact hc
    · rw [hgo he]
      exact tryInputs_passed after he (tryInput_tagInUse hi (hoff ho) ht ha)
  · obtain rfl : i = 6 := Fin.ext h6
    exact hgrant ((eligible_note_iff s out).2 ⟨q, hq, ho, hs⟩) (tryInput_note hq ho hs)

end Sys2Proof.Machine
end

section
/-! SUPPORT. The words of the tables and of the read directives, field by field: what bits of a concatenation are, and then
one lemma for each word. -/

namespace Sys2Proof.Machine

open Sys2Proof

/-! ### Bits of a concatenation -/

theorem getLsbD_append_high {v w i : Nat} {x : BitVec v} {y : BitVec w} (h : w ≤ i) :
    (x ++ y).getLsbD i = x.getLsbD (i - w) := by
  rw [BitVec.getLsbD_append, if_neg (Nat.not_lt.2 h)]

theorem getLsbD_append_low {v w i : Nat} {x : BitVec v} {y : BitVec w} (h : i < w) :
    (x ++ y).getLsbD i = y.getLsbD i := by
  rw [BitVec.getLsbD_append, if_pos h]

theorem ofBool_getLsbD_zero (b : Bool) : (BitVec.ofBool b).getLsbD 0 = b := by cases b <;> rfl

theorem ofBool_getLsbD_eq_extract {n : Nat} (w : BitVec n) (i : Nat) : BitVec.ofBool (w.getLsbD i) = w.extractLsb' i 1 := by
  apply BitVec.eq_of_getLsbD_eq
  intro j hj
  obtain rfl : j = 0 := by omega
  simp

/-! ### Window entries (R36) -/

theorem encodable_iff (w : Word) :
    encodable w = true ↔ w.extractLsb' 22 2 = 0#2 ∧ w.extractLsb' 13 3 = 0#3 ∧ w.extractLsb' 3 5 = 0#5 := by
  simp only [encodable, Bool.and_eq_true, beq_iff_eq, and_assoc]

theorem encodable_entryWord1 (e : WindowEntry) : encodable (entryWord1 e) = true := by
  refine (encodable_iff _).2 ⟨?_, ?_, ?_⟩ <;> unfold entryWord1 <;>
    simp (disch := decide) only [BitVec.extractLsb'_append_eq_of_le, BitVec.extractLsb'_append_eq_of_add_le,
      Nat.reduceSub, BitVec.extractLsb'_eq_self]

/-- A 48-bit base is its high half in word 2 and its low half in a word of its own (R36). -/
theorem base_halves (a : Addr) : a.extractLsb' 32 16 ++ a.extractLsb' 0 32 = a := by
  rw [BitVec.extractLsb'_append_extractLsb'_eq_extractLsb' (by decide : 32 = 0 + 32)]
  exact BitVec.extractLsb'_eq_self

theorem entryOfWords_entryWords (e : WindowEntry) :
    entryOfWords (entryWord1 e) (entryWord2 e) (e.base.extractLsb' 0 32) (e.translatedBase.extractLsb' 0 32) = e := by
  obtain ⟨valid, translated, exponent, origins, kinds, dest, base, translatedBase⟩ := e
  simp (disch := decide) only [entryOfWords, entryWord1, entryWord2, BitVec.extractLsb'_append_eq_of_le,
    BitVec.extractLsb'_append_eq_of_add_le, getLsbD_append_high, getLsbD_append_low, Nat.reduceSub,
    BitVec.extractLsb'_eq_self, ofBool_getLsbD_zero, base_halves]

/-- Word 1 of the entry that encodable words describe: its eight fields and three 0 fields are the word in order (R36). -/
theorem entryWord1_entryOfWords {w1 : Word} (w2 w3 w4 : Word) (h : encodable w1 = true) :
    entryWord1 (entryOfWords w1 w2 w3 w4) = w1 := by
  obtain ⟨h22, h13, h3⟩ := (encodable_iff w1).1 h
  simp (disch := decide) only [entryWord1, entryOfWords, ofBool_getLsbD_eq_extract, ← h22, ← h13, ← h3,
    BitVec.extractLsb'_append_extractLsb'_eq_extractLsb']
  exact BitVec.extractLsb'_eq_self

theorem entryWord2_entryOfWords (w1 w2 w3 w4 : Word) : entryWord2 (entryOfWords w1 w2 w3 w4) = w2 := by
  simp (disch := decide) only [entryWord2, entryOfWords, BitVec.extractLsb'_append_eq_of_le, Nat.reduceSub,
    BitVec.extractLsb'_eq_self, BitVec.extractLsb'_append_extractLsb'_eq_extractLsb']

/-- Settles O50: the fields of the four words are those of the entry, and the words of the fields are those read. -/
theorem windowEntriesRoundTrip : Obligations.WindowEntriesRoundTrip := by
  refine ⟨fun e => ⟨_, _, _, _, rfl, entryOfWords_entryWords e, encodable_entryWord1 e⟩, fun w1 w2 w3 w4 h => ?_⟩
  have h3 : (entryOfWords w1 w2 w3 w4).base.extractLsb' 0 32 = w3 := extract_low _ w3
  have h4 : (entryOfWords w1 w2 w3 w4).translatedBase.extractLsb' 0 32 = w4 := extract_low _ w4
  rw [entryWords, entryWord1_entryOfWords w2 w3 w4 h, entryWord2_entryOfWords, h3, h4]

end Sys2Proof.Machine
end

section
/-! CERTIFICATE. The words that the read directives return, field by field, and the directives that return them (R36 to R41). -/

namespace Sys2Proof.Machine

open Sys2Proof

/-! ### Rows that read -/

/-- A read-only command whose value checks pass answers OK with its words, and changes nothing else. -/
theorem executeCommand_reads {c : Command} {d : Directive} {s : State} {checks : ValueChecks} {words : State → List Word}
    (h : Accepted c d s) (hc : c.readOnly = true) (he : checks d.args s = some fun u => reply .ok (words u) u) :
    executeCommand c checks s = .next (settle (withReply d .ok (words s) s)) := by
  rw [executeCommand_readOnly h hc he]
  exact congrArg (fun u => Host.Outcome.next (settle u)) deliver_reply

theorem noArgs_nil {effect : State → DirResult} {args : List Word} (s : State) (h : args = []) :
    noArgs effect args s = some effect := by
  rw [h]
  rfl

theorem portArg_port {effect : Port → State → DirResult} {args : List Word} {w : Word} {p : Port} (s : State)
    (ha : args = [w]) (hw : w.toNat = p.val) : portArg effect args s = some (effect p) := by
  rw [ha, portArg, portOfNat_val hw]
  rfl

/-! ### IDENTIFY (R41) -/

theorem zero_append_eq_setWidth (g : BitVec 16) : (0#16 ++ g : Word) = g.setWidth 32 :=
  (BitVec.setWidth_eq_append (by decide)).symm

theorem identifyWords_fields (s : State) :
    ∃ w2 w3 : Word, identifyWords s = [0x3C5A0106#32, w2, w3] ∧
      w2.extractLsb' 28 4 = 1#4 ∧ w2.extractLsb' 24 4 = 0#4 ∧
      w2.extractLsb' 16 8 = BitVec.ofNat 8 s.faultList.records.length ∧ w2.extractLsb' 11 5 = 0#5 ∧
      (∀ p, s.manager = some p → w2.extractLsb' 8 3 = BitVec.ofNat 3 p.val) ∧
      (s.manager = none → w2.extractLsb' 8 3 = 7#3) ∧ w2.extractLsb' 5 3 = 0#3 ∧
      w2.extractLsb' 0 5 = BitVec.ofNat 5 s.node.val ∧ w3 = s.windows.generation.setWidth 32 := by
  refine ⟨_, _, rfl, ?_, ?_, ?_, ?_, fun p hp => ?_, fun hn => ?_, ?_, ?_, zero_append_eq_setWidth _⟩ <;>
    simp (disch := decide) only [BitVec.extractLsb'_append_eq_of_le, BitVec.extractLsb'_append_eq_of_add_le,
      Nat.reduceSub, BitVec.extractLsb'_eq_self, bits, Config.revision, *]

/-! ### PORT_STATUS (R37) -/

/-- The peer's node number, or 0 while it is not known (R37). -/
theorem statusWord1_peer (p : Port) (s : State) :
    (statusWord1 p s).extractLsb' 16 5 = BitVec.ofNat 5 (((s.port p).peerNode.map Fin.val).getD 0) := by
  simp (disch := decide) only [statusWord1, BitVec.extractLsb'_append_eq_of_le, Nat.reduceSub,
    BitVec.extractLsb'_append_eq_of_add_le, BitVec.extractLsb'_eq_self, bits]
  cases (s.port p).peerNode <;> rfl

theorem statusWord1_fields (p : Port) (s : State) :
    (statusWord1 p s).getLsbD 31 = false ∧ (statusWord1 p s).extractLsb' 24 7 = BitVec.ofNat 7 (originCount s p) ∧
    (statusWord1 p s).getLsbD 23 = (s.port p).peerNode.isSome ∧ (statusWord1 p s).extractLsb' 21 2 = 0#2 ∧
    (statusWord1 p s).extractLsb' 16 5 = BitVec.ofNat 5 (((s.port p).peerNode.map Fin.val).getD 0) ∧
    (statusWord1 p s).extractLsb' 14 2 = 0#2 ∧ (statusWord1 p s).getLsbD 13 = (s.manager == some p) ∧
    (statusWord1 p s).getLsbD 12 = (s.port p).fenced ∧ (statusWord1 p s).getLsbD 11 = (s.port p).seen ∧
    (statusWord1 p s).getLsbD 10 = (s.port p).heard ∧ (statusWord1 p s).extractLsb' 8 2 = (s.port p).link.code ∧
    (statusWord1 p s).getLsbD 7 = false ∧ (statusWord1 p s).extractLsb' 4 3 = BitVec.ofNat 3 (s.port p).attempts ∧
    (statusWord1 p s).getLsbD 3 = false ∧ (statusWord1 p s).extractLsb' 0 3 = BitVec.ofNat 3 p.val := by
  refine ⟨?_, ?_, ?_, ?_, statusWord1_peer p s, ?_, ?_, ?_, ?_, ?_, ?_, ?_, ?_, ?_, ?_⟩ <;>
    simp (disch := decide) only [statusWord1, BitVec.extractLsb'_append_eq_of_le,
      BitVec.extractLsb'_append_eq_of_add_le, getLsbD_append_high, getLsbD_append_low, Nat.reduceSub,
      BitVec.extractLsb'_eq_self, ofBool_getLsbD_zero, flag, bits, BitVec.getLsbD_zero]

theorem statusWord2_fields (r : PortRec) :
    (statusWord2 r).extractLsb' 28 4 = 0#4 ∧
    (statusWord2 r).extractLsb' 24 4 = BitVec.ofNat 4 r.replyQueue.length ∧
    (statusWord2 r).extractLsb' 20 4 = BitVec.ofNat 4 r.repLane.length ∧
    (statusWord2 r).extractLsb' 16 4 = BitVec.ofNat 4 r.reqLane.length ∧
    (statusWord2 r).extractLsb' 12 4 = BitVec.ofNat 4 r.owed.rep ∧
    (statusWord2 r).extractLsb' 8 4 = BitVec.ofNat 4 r.owed.req ∧
    (statusWord2 r).extractLsb' 4 4 = BitVec.ofNat 4 r.credits.rep ∧
    (statusWord2 r).extractLsb' 0 4 = BitVec.ofNat 4 r.credits.req := by
  refine ⟨?_, ?_, ?_, ?_, ?_, ?_, ?_, ?_⟩ <;>
    simp (disch := decide) only [statusWord2, BitVec.extractLsb'_append_eq_of_le,
      BitVec.extractLsb'_append_eq_of_add_le, Nat.reduceSub, BitVec.extractLsb'_eq_self, bits]

theorem statusWord3_fields (r : PortRec) :
    (statusWord3 r).extractLsb' 16 16 = BitVec.ofNat 16 r.fencedDrops ∧ (statusWord3 r).extractLsb' 9 7 = 0#7 ∧
    (statusWord3 r).getLsbD 8 = r.offers.isSome ∧
    (statusWord3 r).extractLsb' 4 4 = BitVec.ofNat 4 ((r.offers.map LanePair.rep).getD 0) ∧
    (statusWord3 r).extractLsb' 0 4 = BitVec.ofNat 4 ((r.offers.map LanePair.req).getD 0) := by
  have hrep : (r.offers.getD ⟨0, 0⟩).rep = (r.offers.map LanePair.rep).getD 0 := by cases r.offers <;> rfl
  have hreq : (r.offers.getD ⟨0, 0⟩).req = (r.offers.map LanePair.req).getD 0 := by cases r.offers <;> rfl
  refine ⟨?_, ?_, ?_, ?_, ?_⟩ <;>
    simp (disch := decide) only [statusWord3, BitVec.extractLsb'_append_eq_of_le,
      BitVec.extractLsb'_append_eq_of_add_le, getLsbD_append_high, getLsbD_append_low, Nat.reduceSub,
      BitVec.extractLsb'_eq_self, ofBool_getLsbD_zero, flag, bits, hrep, hreq]

theorem statusWord4_fields (p : Port) (s : State) :
    (statusWord4 p s).extractLsb' 23 9 = 0#9 ∧ (statusWord4 p s).extractLsb' 16 7 = BitVec.ofNat 7 s.settings.quota[p] ∧
    (statusWord4 p s).extractLsb' 0 16 = BitVec.ofNat 16 s.settings.deadline[p] := by
  refine ⟨?_, ?_, ?_⟩ <;>
    simp (disch := decide) only [statusWord4, BitVec.extractLsb'_append_eq_of_le,
      BitVec.extractLsb'_append_eq_of_add_le, Nat.reduceSub, BitVec.extractLsb'_eq_self, bits]

/-- Settles O40: the rows return the words, and the words are read field by field. -/
theorem identifyAndPortStatusReport : Obligations.IdentifyAndPortStatusReport := by
  refine ⟨fun d s h ha => ?_, fun p w d s h ha hw => ?_⟩
  · obtain ⟨w2, w3, hwords, fields⟩ := identifyWords_fields s
    refine ⟨w2, w3, ?_, fields⟩
    rw [← hwords]
    exact executeCommand_reads h rfl (noArgs_nil s ha)
  · obtain ⟨f1, f2, f3, f4, f5, f6, fm, f7, f8, f9, fl, rest⟩ := statusWord1_fields p s
    refine ⟨_, _, _, _, s.port p, rfl, executeCommand_reads (words := statusWords p) h rfl (portArg_port s ha hw),
      ⟨f1, f2, f3, f4, f5, f6, ?_, f7, f8, f9, ?_, ?_, ?_, ?_, rest⟩, statusWord2_fields _, statusWord3_fields _,
      statusWord4_fields p s⟩
    · rw [fm, beq_iff_eq]
    all_goals
      intro hl
      rw [fl, hl]
      rfl

end Sys2Proof.Machine
end

section
/-! CERTIFICATE. The tables as the read directives return them, field by field (R36, R38 to R40). -/

namespace Sys2Proof.Machine

open Sys2Proof

/-! ### The words -/

/-- Words 1 and 2 of an entry that is not FREE (R38). -/
theorem trackWords_fields (e : TrackEntry) :
    ∃ w1 w2 : Word, trackWords (some e) = [w1, w2] ∧
      w1.extractLsb' 30 2 = 0#2 ∧ w1.extractLsb' 24 6 = e.kind.ref ∧ w1.extractLsb' 16 8 = e.tag ∧
      w1.extractLsb' 14 2 = e.state.pendingBits ∧ w1.extractLsb' 12 2 = e.kind.code ∧ w1.getLsbD 11 = false ∧
      w1.extractLsb' 8 3 = BitVec.ofNat 3 e.dest.val ∧ w1.getLsbD 7 = false ∧
      w1.extractLsb' 4 3 = BitVec.ofNat 3 e.origin.val ∧ w1.getLsbD 3 = false ∧ w1.extractLsb' 0 3 = e.state.code ∧
      w2.extractLsb' 16 16 = e.generation ∧ w2.extractLsb' 0 16 = BitVec.ofNat 16 e.time := by
  refine ⟨_, _, rfl, ?_, ?_, ?_, ?_, ?_, ?_, ?_, ?_, ?_, ?_, ?_, ?_, ?_⟩ <;>
    simp (disch := decide) only [BitVec.extractLsb'_append_eq_of_le, BitVec.extractLsb'_append_eq_of_add_le,
      getLsbD_append_high, getLsbD_append_low, Nat.reduceSub, BitVec.extractLsb'_eq_self, bits, BitVec.getLsbD_zero]

/-- The word of a HELD record (R39). -/
theorem lockWord_fields (l : Lock) :
    (lockWord (some l)).getLsbD 31 = true ∧ (lockWord (some l)).extractLsb' 27 4 = 0#4 ∧
    (lockWord (some l)).extractLsb' 24 3 = BitVec.ofNat 3 l.holder.val ∧ (lockWord (some l)).extractLsb' 22 2 = 0#2 ∧
    (lockWord (some l)).extractLsb' 16 6 = BitVec.ofNat 6 l.window.val ∧
    (lockWord (some l)).extractLsb' 0 16 = BitVec.ofNat 16 l.hold := by
  refine ⟨?_, ?_, ?_, ?_, ?_, ?_⟩ <;>
    simp (disch := decide) only [lockWord, BitVec.extractLsb'_append_eq_of_le, BitVec.extractLsb'_append_eq_of_add_le,
      getLsbD_append_high, Nat.reduceSub, BitVec.extractLsb'_eq_self, bits, BitVec.getLsbD_one]
  decide

/-- Eight Node Table entries stand in a word, four bits each (R39). -/
theorem nodeWord_field (s : State) (k : Fin 4) (i : Fin 8) :
    (nodeWord s k).extractLsb' (4 * i.val) 4 = s.nodeTable[8 * k.val + i.val].code := by
  fin_cases i <;>
    simp (disch := decide) only [nodeWord, BitVec.extractLsb'_append_eq_of_le,
      BitVec.extractLsb'_append_eq_of_add_le, Nat.reduceSub, Nat.reduceMul, BitVec.extractLsb'_eq_self] <;> rfl

/-- The four words of a fault record (R40). -/
theorem faultWords_fields (f : FaultRecord) :
    ∃ w1 w3 : Word, faultWords f = [w1, f.stamp, w3, faultWord4 f.report] ∧
      w1.extractLsb' 16 16 = f.seq ∧ w1.extractLsb' 11 5 = f.report.kind.code ∧
      w1.getLsbD 10 = f.report.detail.isSome ∧ w1.getLsbD 9 = f.report.index.isSome ∧
      w1.getLsbD 8 = f.report.addr.isSome ∧ w1.getLsbD 7 = f.report.tag.isSome ∧
      w1.getLsbD 6 = f.report.port.isSome ∧ w1.extractLsb' 3 3 = 0#3 ∧
      (∀ p, f.report.port = some p → w1.extractLsb' 0 3 = BitVec.ofNat 3 p.val) ∧
      (f.report.port = none → w1.extractLsb' 0 3 = 0#3) ∧
      w3.extractLsb' 16 16 = (f.report.addr.getD 0#48).extractLsb' 32 16 ∧
      w3.extractLsb' 8 8 = f.report.tag.getD 0#8 ∧ w3.extractLsb' 2 6 = f.report.index.getD 0#6 ∧
      w3.extractLsb' 0 2 = 0#2 := by
  refine ⟨_, _, rfl, ?_, ?_, ?_, ?_, ?_, ?_, ?_, ?_, fun p hp => ?_, fun hn => ?_, ?_, ?_, ?_, ?_⟩ <;>
    simp (disch := decide) only [BitVec.extractLsb'_append_eq_of_le, BitVec.extractLsb'_append_eq_of_add_le,
      getLsbD_append_high, getLsbD_append_low, Nat.reduceSub, BitVec.extractLsb'_eq_self, ofBool_getLsbD_zero, flag,
      bits, *]

/-- A byte in the low bits of a word, with 0 above it (R40). -/
theorem byteWord_fields (b : Byte) : (b.setWidth 32).extractLsb' 8 24 = 0#24 ∧ (b.setWidth 32).extractLsb' 0 8 = b := by
  have h : b.setWidth 32 = (0#24 ++ b : BitVec (24 + 8)) := BitVec.setWidth_eq_append (by decide)
  rw [h]
  exact ⟨extract_high 0#24 b, extract_low 0#24 b⟩

/-- Word `k` of the four words of a fault record (R40). -/
def faultWord (f : FaultRecord) (k : Fin 4) : Word := (faultWords f).getD k.val 0#32

/-! ### The rows -/

theorem windowIndex_val {w : Word} {k : Fin 48} (h : w.toNat = k.val) : windowIndex w = some k := by
  simp [windowIndex, h]

/-- TABLE_READ of the bank that its first argument names (R56). -/
theorem tableReadChecks_bank {b i : Word} {k : Fin 48} (s : State) (staging : Bool)
    (hb : b = if staging then 1#32 else 0#32) (hi : i.toNat = k.val) :
    tableReadChecks [b, i] s = some fun u => reply .ok (entryWords (bankEntry staging k u)) u := by
  simp only [tableReadChecks, windowIndex_val hi, hb]
  cases staging <;> rfl

theorem exec_tableRead {b i : Word} {k : Fin 48} {d : Directive} {s : State} (staging : Bool)
    (h : Accepted .tableRead d s) (ha : d.args = [b, i]) (hi : i.toNat = k.val)
    (hb : b = if staging then 1#32 else 0#32) :
    exec .tableRead s = .next (settle (withReply d .ok (entryWords (bankEntry staging k s)) s)) :=
  executeCommand_reads (words := fun u => entryWords (bankEntry staging k u)) h rfl
    (by rw [ha]; exact tableReadChecks_bank s staging hb hi)

theorem exec_trackRead {w : Word} {i : Fin 64} {d : Directive} {s : State} (h : Accepted .trackRead d s)
    (ha : d.args = [w]) (hi : w.toNat = i.val) :
    exec .trackRead s = .next (settle (withReply d .ok (trackWords s.track[i]) s)) :=
  executeCommand_reads (words := fun u => trackWords u.track[i]) h rfl (by simp [ha, trackReadChecks, hi])

theorem exec_faultRead {w : Word} {d : Directive} {s : State} (h : Accepted .faultRead d s) (ha : d.args = [w])
    (h1 : 1 ≤ w.toNat) (h4 : w.toNat ≤ 4) :
    exec .faultRead s =
      .next (settle (withReply d .ok ((s.faultList.records.take w.toNat).flatMap faultWords) s)) :=
  executeCommand_reads (words := fun u => (u.faultList.records.take w.toNat).flatMap faultWords) h rfl
    (by rw [ha]; exact if_pos ⟨h1, h4⟩)

/-- Settles O41: each row returns the words of its table, and each word is read field by field. -/
theorem tablesAreReadAsTheyStand : Obligations.TablesAreReadAsTheyStand := by
  refine ⟨fun b i k d s h ha hi => ⟨fun hb => ?_, fun hb => ?_⟩, fun w i d s h ha hi => ⟨fun hn => ?_, fun e he => ?_⟩,
    fun d s h ha => ?_, fun d s h ha => ?_, fun w d s h ha h1 h4 => ?_⟩
  · exact exec_tableRead false h ha hi hb
  · exact exec_tableRead true h ha hi hb
  · rw [exec_trackRead h ha hi, hn]
    rfl
  · obtain ⟨w1, w2, hw, f30, fref, ftag, fpend, fkind, f11, fdest, f7, forig, f3, fstate, fgen, ftime⟩ :=
      trackWords_fields e
    have kind (k : TrackKind) (hk : e.kind = k) : w1.extractLsb' 24 6 = k.ref ∧ w1.extractLsb' 12 2 = k.code := by
      rw [← hk]
      exact ⟨fref, fkind⟩
    have state (st : TrackState) (hs : e.state = st) :
        w1.extractLsb' 14 2 = st.pendingBits ∧ w1.extractLsb' 0 3 = st.code := by
      rw [← hs]
      exact ⟨fpend, fstate⟩
    exact ⟨w1, w2, by rw [exec_trackRead h ha hi, he, hw], f30, ftag, fun k => kind (.fetch k), fun k => kind (.storeC k),
      fun k => kind (.swap k), fun n => kind (.directive n), fun b => state (.active b), state .orphaned,
      state (.replyDue .timeout), state (.replyDue .linkLost), state .tombstone, f11, fdest, f7, forig, f3, fgen, ftime⟩
  · refine ⟨fun r => lockWord s.locks[r],
      executeCommand_reads (words := fun u => lockIndices.map fun r => lockWord u.locks[r]) h rfl (noArgs_nil s ha),
      fun r => ⟨fun hn => ?_, fun l hl => ?_⟩⟩
    · dsimp only
      rw [hn]
      rfl
    · dsimp only
      rw [hl]
      exact lockWord_fields l
  · refine ⟨nodeWord s, executeCommand_reads (words := fun u => [0, 1, 2, 3].map (nodeWord u)) h rfl (noArgs_nil s ha),
      fun k i n hn => ?_⟩
    have hentry : s.nodeTable[8 * k.val + i.val] = s.nodeTable[n] := by simp [← hn]
    rw [nodeWord_field, hentry]
    refine ⟨fun p hp => ?_, fun hp => ?_, fun hp => ?_⟩ <;> rw [hp] <;> rfl
  · refine ⟨faultWord, exec_faultRead h ha h1 h4, fun f => ?_⟩
    obtain ⟨w1, w3, hw, fseq, fkind, f10, f9, f8, f7, f6, f3, fport, fnone, faddr, ftag, findex, f0⟩ :=
      faultWords_fields f
    have e0 : faultWord f 0 = w1 := by rw [faultWord, hw]; rfl
    have e1 : faultWord f 1 = f.stamp := by rw [faultWord, hw]; rfl
    have e2 : faultWord f 2 = w3 := by rw [faultWord, hw]; rfl
    have e3 : faultWord f 3 = faultWord4 f.report := by rw [faultWord, hw]; rfl
    rw [e0, e1, e2, e3]
    refine ⟨fseq, rfl, fun k code hc hk => ?_, f10, f9, f8, f7, f6, f3, fport, fnone, ftag, findex, f0, fun a ha => ?_,
      fun hn => ?_⟩
    · rw [fkind, hk]
      exact (show ∀ row ∈ _, FaultKind.code row.1 = row.2 by decide) _ hc
    · rw [faddr, ha, faultWord4, ha]
      exact ⟨rfl, rfl⟩
    · rw [faddr, hn, faultWord4, hn]
      exact ⟨rfl, byteWord_fields _⟩

end Sys2Proof.Machine
end

section
/-! CERTIFICATE. The form check of a request head: the conditions of its table, and the first of them in order (R29). -/

namespace Sys2Proof.Machine

open Sys2Proof

theorem byNode_iff (k : ReqKind) : k.byNode = true ↔ k = .directive ∨ k = .note := by cases k <;> simp [ReqKind.byNode]

/-- An address is a multiple of 4 when its two low bits are 0. -/
theorem misaligned_iff (a : Addr) : (a.extractLsb' 0 2 != 0#2) = true ↔ a.toNat % 4 ≠ 0 := by
  simp [bne_iff_ne, ← BitVec.toNat_inj]

/-- The LENGTH condition, kind by kind (R29). -/
theorem lengthBad_iff (r : Request) :
    lengthBad r = true ↔
      (r.kind = .fetch ∧ (r.length.toNat = 0 ∨ 16 < r.length.toNat ∨ r.payload ≠ [])) ∨
      ((r.kind = .store ∨ r.kind = .storeC) ∧
        (r.length.toNat = 0 ∨ 16 < r.length.toNat ∨ r.payload.length ≠ r.length.toNat)) ∨
      (r.kind = .swap ∧ (r.length.toNat = 0 ∨ 2 < r.length.toNat ∨ r.payload.length ≠ r.length.toNat)) ∨
      ((r.kind = .claim ∨ r.kind = .release) ∧ (r.length.toNat ≠ 0 ∨ r.payload ≠ [])) ∨
      (r.kind = .directive ∧ (8 < r.length.toNat ∨ r.payload.length ≠ r.length.toNat)) ∨
      (r.kind = .note ∧ (r.length.toNat ≠ 2 ∨ r.payload.length ≠ 2)) := by
  unfold lengthBad
  cases r.kind <;> simp [or_assoc]

/-! ### The details in their order -/

theorem malformation_of_length {r : Request} (h : lengthBad r = true) : malformation r = some .length := if_pos h

theorem malformation_byNode {r : Request} (h : lengthBad r = false) (hb : r.kind.byNode = true) :
    malformation r =
      if 31 < r.target.toNat ∨ 31 < r.source.toNat then some .node
      else if 15 < r.hop.toNat then some .hop else none := by
  simp [malformation, h, hb]

theorem malformation_byAddress {r : Request} (h : lengthBad r = false) (hb : r.kind.byNode = false) :
    malformation r = if r.addr.toNat % 4 ≠ 0 then some .align else none := by
  simp only [malformation, h, hb, misaligned_iff]
  rfl

/-- Settles O20: the conditions of the table, and the first of them in its order. -/
theorem malformedHeadsByTheTable : Obligations.MalformedHeadsByTheTable := by
  intro r
  have hkind : r.kind ≠ .directive ∧ r.kind ≠ .note ↔ ¬ r.kind.byNode = true := by rw [byNode_iff, not_or]
  refine ⟨lengthBad r = true, ¬ r.kind.byNode = true ∧ r.addr.toNat % 4 ≠ 0,
    r.kind.byNode = true ∧ (31 < r.target.toNat ∨ 31 < r.source.toNat), r.kind.byNode = true ∧ 15 < r.hop.toNat,
    lengthBad_iff r, by rw [← and_assoc, hkind], by rw [byNode_iff], by rw [byNode_iff], ?_⟩
  cases hl : lengthBad r with
  | true => simp [malformation_of_length hl]
  | false =>
    cases hb : r.kind.byNode with
    | true =>
      rw [malformation_byNode hl hb]
      split
      · next hn => simp [hn]
      · next hn =>
        split
        · next hh => simp [hn, hh]
        · next hh => simp [hn, hh]
    | false =>
      rw [malformation_byAddress hl hb]
      split
      · next ha => simp [ha]
      · next ha => simp [ha]

end Sys2Proof.Machine
end

section
/-! CERTIFICATE. The alert that a kept record raises, and the route check by itself (R42, R177, R178). -/

namespace Sys2Proof.Machine

open Sys2Proof

/-! ### A raised alert -/

/-- The state in which a raised alert is pending: the flag is clear (R177). -/
def withPendingAlert (s : State) : State :=
  { s with alert := { armed := false, pending := true, queued := s.alert.queued } }

/-- A raised alert joins one that is pending (R177). -/
theorem raiseAlert_pending_set {s : State} {n : Node} (ha : s.alert.armed = true) (hn : s.settings.alertNode = some n)
    (hp : s.alert.pending = true) :
    raiseAlert s = withPendingAlert s := by
  simp [raiseAlert, setPendingAlert, withPendingAlert, ha, hn, hp]

/-- A newly pending alert has its route checked (R177). -/
theorem raiseAlert_pending_clear {s : State} {n : Node} (ha : s.alert.armed = true) (hn : s.settings.alertNode = some n)
    (hp : s.alert.pending = false) :
    raiseAlert s = routeCheck (withPendingAlert s) := by
  simp [raiseAlert, setPendingAlert, withPendingAlert, ha, hn, hp]

theorem raiseAlert_joins {s : State} {n : Node} (ha : s.alert.armed = true) (hn : s.settings.alertNode = some n)
    (hj : s.alert.pending = true ∨ s.alert.queued ≠ none) :
    (raiseAlert s).alert = { armed := false, pending := true, queued := s.alert.queued } := by
  by_cases hp : s.alert.pending = true
  · rw [raiseAlert_pending_set ha hn hp]
    rfl
  · have hq : s.alert.queued.isSome = true := Option.isSome_iff_ne_none.2 (hj.resolve_left hp)
    rw [raiseAlert_pending_clear ha hn (by simpa using hp), routeCheck_idle (s := withPendingAlert s) (.inr hq)]
    rfl

theorem raiseAlert_queues {s : State} {n : Node} {p : Port} (ha : s.alert.armed = true)
    (hp : s.alert.pending = false) (hq : s.alert.queued = none) (hn : s.settings.alertNode = some n)
    (ht : s.nodeTable[n] = .port p) (hu : (s.port p).link = .up) :
    (raiseAlert s).alert = { armed := false, pending := false, queued := some ⟨p, buildNote n s, false⟩ } := by
  have hr : alertRoute s = some (n, p) := alertRoute_up hn ht hu
  rw [raiseAlert_pending_clear ha hn hp, routeCheck_found (s := withPendingAlert s) rfl hq hr]
  rfl

theorem raiseAlert_waits {s : State} {n : Node} (ha : s.alert.armed = true) (hp : s.alert.pending = false)
    (hq : s.alert.queued = none) (hn : s.settings.alertNode = some n)
    (hd : ∀ p, s.nodeTable[n] = .port p → (s.port p).link ≠ .up) :
    (raiseAlert s).alert = { armed := false, pending := true, queued := none } := by
  have hr : alertRoute s = none := alertRoute_eq_none fun m p hm ht => hd p (by
    obtain rfl : n = m := Option.some.inj (hn.symm.trans hm)
    exact ht)
  rw [raiseAlert_pending_clear ha hn hp, routeCheck_none (s := withPendingAlert s) hr, ← hq]
  rfl

/-! ### A kept record -/

/-- The state with the record of a kept report in its Fault List, before the alert (R168, R169, R170). -/
def withRecord (r : FaultReport) (s : State) : State :=
  { s with
    fltLow := true
    faultList := { s.faultList with
      records := keepRecord s.faultList.policy s.faultList.records (faultRecord r s)
      nextSeq := s.faultList.nextSeq + 1#16 } }

theorem raiseFault_kept {r : FaultReport} {s : State} (h : isKept s.faultList.policy s.faultList.records = true) :
    raiseFault r s = raiseAlert (withRecord r s) := by
  simp [raiseFault, h, withRecord]

/-- The count of a list that keeps a record: one more with room, the same when the oldest leaves (R169). -/
theorem keepRecord_length {policy : Policy} {records : List FaultRecord} (r : FaultRecord)
    (h : isKept policy records = true) :
    (keepRecord policy records r).length = if records.length < 32 then records.length + 1 else records.length := by
  split
  · next hr => rw [keepRecord_room hr, List.length_append, List.length_singleton]
  · next hr =>
    have hp : policy = .keepNewest := ((isKept_iff policy records).1 h).resolve_left hr
    rw [hp, keepRecord_newest (Nat.le_of_not_lt hr), List.length_append, List.length_tail, List.length_singleton]
    omega

/-- The note of a record just kept: its own sequence number, and the count of the list that holds it (R42). -/
theorem buildNote_withRecord (n : Node) {r : FaultReport} {s : State}
    (h : isKept s.faultList.policy s.faultList.records = true) :
    buildNote n (withRecord r s) =
      { kind := .note, tag := 0#8, length := 2#5, addr := 0#48, target := BitVec.ofNat 8 n.val,
        source := BitVec.ofNat 8 s.node.val, hop := 15#8, command := 0#8,
        payload := [s.faultList.nextSeq.setWidth 32,
                    BitVec.ofNat 32 (if s.faultList.records.length < 32 then s.faultList.records.length + 1
                      else s.faultList.records.length)] } := by
  have hs : lastSeq (withRecord r s) = s.faultList.nextSeq := by simp [lastSeq, withRecord]
  rw [buildNote, hs, ← keepRecord_length (faultRecord r s) h]
  rfl

/-- Settles O35: a kept record's alert by what the alert path holds, and the route check by what it finds. -/
theorem keptRecordsRaiseAlerts : Obligations.KeptRecordsRaiseAlerts := by
  refine ⟨fun r s hk => ?_, fun s => ⟨_, Iff.rfl, fun n p ⟨hp, hq⟩ hn ht hu => ?_, fun hi => ?_⟩⟩
  · replace hk := (isKept_iff s.faultList.policy s.faultList.records).2 hk
    rw [raiseFault_kept hk]
    refine ⟨fun ho => ?_, fun n ha hn => ⟨raiseAlert_joins (s := withRecord r s) ha hn, fun hp hq => ⟨fun p ht hu => ?_,
      raiseAlert_waits (s := withRecord r s) ha hp hq hn⟩⟩⟩
    · rw [raiseAlert_off (s := withRecord r s) ho]
      rfl
    · rw [← buildNote_withRecord n hk]
      exact raiseAlert_queues (s := withRecord r s) ha hp hq hn ht hu
  · rw [routeCheck_found hp hq (alertRoute_up hn ht hu)]
    rfl
  · rcases hi with hw | hd
    · refine routeCheck_idle ?_
      by_cases hp : s.alert.pending = true
      · exact .inr (Option.isSome_iff_ne_none.2 fun hq => hw ⟨hp, hq⟩)
      · exact .inl (by simpa using hp)
    · exact routeCheck_none (alertRoute_eq_none hd)

end Sys2Proof.Machine
end

section
/-! CERTIFICATE. Directives that are answered without effect (R131, R132, R35), and the directives that edit the Staging bank
(R55, R57, R58). -/

namespace Sys2Proof.Machine

open Sys2Proof

/-! ### Every row executes its command -/

/-- The value checks of a command, which give its effect (step 4 of R132). -/
def Command.checks : Command → ValueChecks
  | .identify => noArgs fun s => reply .ok (identifyWords s) s
  | .portStatus => portArg fun p s => reply .ok (statusWords p s) s
  | .portEnable => portArg fun p s => okDone (enablePort p s)
  | .portDisable => portArg fun p => okDeferred (.disable p)
  | .portRestart => portArg fun p => okDeferred (.restart p)
  | .fence => portArg fun p s => okDone (setFence p s)
  | .unfence => portArg fun p s => okDone (clearFence p s)
  | .setQuota => quotaChecks
  | .setDeadline => deadlineChecks
  | .setTombstone => timeArg fun n s => okDone (putTombstone n s)
  | .setLockLimit => timeArg fun n s => okDone (putHoldLimit n s)
  | .resetRouter => noArgs (okDeferred .resetRouter)
  | .tableWrite => tableWriteChecks
  | .tableRead => tableReadChecks
  | .tableClear => noArgs fun s => okDone (clearStaging s)
  | .commit => noArgs commitTable
  | .discard => noArgs fun s => okDone (discardStaging s)
  | .trackRead => trackReadChecks
  | .lockRead => noArgs fun s => reply .ok (lockIndices.map fun r => lockWord s.locks[r]) s
  | .breakLock => breakLockChecks
  | .nodeSet => nodeSetChecks
  | .nodeRead => noArgs fun s => reply .ok ([0, 1, 2, 3].map (nodeWord s)) s
  | .setNode => setNodeChecks
  | .setManager => setManagerChecks
  | .faultRead => faultReadChecks
  | .faultPop => faultPopChecks
  | .faultPolicy => faultPolicyChecks
  | .alertSet => alertSetChecks
  | .alertArm => noArgs fun s => okDone (armAlert s)

/-- The row of a command is its execution event, with its value checks (R131). -/
theorem exec_row (c : Command) (s : State) : exec c.row s = executeCommand c c.checks s := by cases c <;> rfl

/-! ### Codes and counts -/

theorem commandOfCode_none {code : Byte} (h : ∀ c : Command, code ≠ c.code) : commandOfCode code = none := by
  refine List.find?_eq_none.2 fun c _ => ?_
  simpa using (h c).symm

/-- A code that is not in the table is answered BAD_COMMAND (R132). -/
theorem exec_unknownCommand {d : Directive} {s : State} (hr : s.resetLow = false) (hm : s.mgmt = .executing d)
    (h : ∀ c : Command, d.command ≠ c.code) :
    exec .unknownCommand s = .next (settle (withReply d .badCommand [] s)) := by
  show execUnknownCommand s = _
  rw [execUnknownCommand, whenRunning_high hr]
  simp only [hm, commandOfCode_none h, Option.isNone_none, if_true, deliver_reply]

/-- Settles O38: an unknown code, a wrong count and a row without its directive, and then the tables of codes. -/
theorem wrongCodeOrCountChangesNothing : Obligations.WrongCodeOrCountChangesNothing := by
  refine ⟨fun d s => exec_unknownCommand, fun c d s h ha hn => ?_, fun c s h => ?_, by decide, by decide, by decide⟩
  · rw [exec_row]
    exact executeCommand_wrong_count h ha hn
  · rw [exec_row]
    exact executeCommand_other h

/-! ### Argument words out of range (R35) -/

theorem portOfNat_none {w : Word} (h : 5 < w.toNat) : portOfNat w.toNat = none := dif_neg (by omega)

theorem nodeOfNat_none {w : Word} (h : 31 < w.toNat) : nodeOfNat w.toNat = none := dif_neg (by omega)

theorem nodeOfNat_val {w : Word} {n : Node} (h : w.toNat = n.val) : nodeOfNat w.toNat = some n := by
  simp [nodeOfNat, h]

theorem windowIndex_none {w : Word} (h : 47 < w.toNat) : windowIndex w = none := dif_neg (by omega)

theorem timeOf_none {w : Word} (h : w.toNat < 10 ∨ 65535 < w.toNat) : timeOf w = none := if_neg (by omega)

theorem nodeValue_none {v : Word} (h : 5 < v.toNat) (hn : v ≠ noneWord) : nodeValue v = none := by
  rw [nodeValue, if_neg hn, portOfNat_none h]
  rfl

/-- A word that is a small number is not the word that stands for none. -/
theorem ne_noneWord {w : Word} {n : Node} (h : w.toNat = n.val) : w ≠ noneWord := by
  rintro rfl
  have hn := n.isLt
  rw [← h] at hn
  revert hn
  decide

/-- A word above 1 is neither of the two that TABLE_READ and FAULT_POLICY know. -/
theorem ne_zero_one {w : Word} (h : 1 < w.toNat) : w ≠ 0#32 ∧ w ≠ 1#32 := by
  constructor <;> rintro rfl <;> revert h <;> decide

theorem nothing_after_first {c : Command} {w : Word} {rest : List Word} (h : (w :: rest).length = c.argCount)
    (hc : c.argCount = 1) : rest = [] :=
  List.length_eq_zero_iff.1 (Nat.succ.inj (h.trans hc))

theorem one_after_first {c : Command} {w : Word} {rest : List Word} (h : (w :: rest).length = c.argCount)
    (hc : c.argCount = 2) : ∃ v, rest = [v] :=
  List.length_eq_one_iff.1 (Nat.succ.inj (h.trans hc))

/-! ### The value checks that fail -/

section

variable {w v : Word} (s : State)

theorem portArg_none {effect : Port → State → DirResult} (h : 5 < w.toNat) : portArg effect [w] s = none := by
  simp only [portArg, portOfNat_none h, Option.map_none]

theorem timeArg_none {effect : Nat → State → DirResult} (h : w.toNat < 10 ∨ 65535 < w.toNat) :
    timeArg effect [w] s = none := by
  simp only [timeArg, timeOf_none h, Option.map_none]

theorem quotaChecks_none (h : 5 < w.toNat ∨ v.toNat = 0 ∨ 64 < v.toNat) : quotaChecks [w, v] s = none := by
  rcases h with h | h
  · simp only [quotaChecks, portOfNat_none h]
  · unfold quotaChecks
    dsimp only
    split
    · rfl
    · exact if_neg (by omega)

theorem deadlineChecks_none (h : 5 < w.toNat ∨ v.toNat < 10 ∨ 65535 < v.toNat) : deadlineChecks [w, v] s = none := by
  rcases h with h | h
  · simp only [deadlineChecks, portOfNat_none h]
  · simp only [deadlineChecks, timeOf_none h]
    cases portOfNat w.toNat <;> rfl

theorem tableWriteChecks_no_index {rest : List Word} (h : 47 < w.toNat) : tableWriteChecks (w :: rest) s = none := by
  unfold tableWriteChecks
  split
  · next hargs =>
    obtain ⟨rfl, -⟩ := List.cons.inj hargs
    rw [windowIndex_none h]
  · rfl

theorem tableWriteChecks_not_encodable {w1 w2 w3 w4 : Word} (h : ¬ encodable w1 = true) :
    tableWriteChecks [w, w1, w2, w3, w4] s = none := by
  unfold tableWriteChecks
  dsimp only
  split
  · rfl
  · exact if_neg h

theorem tableReadChecks_none (h : 1 < w.toNat ∨ 47 < v.toNat) : tableReadChecks [w, v] s = none := by
  rcases h with h | h
  · unfold tableReadChecks
    dsimp only
    split
    · rfl
    · rw [if_neg (ne_zero_one h).1, if_neg (ne_zero_one h).2]
  · simp only [tableReadChecks, windowIndex_none h]

theorem trackReadChecks_none (h : 63 < w.toNat) : trackReadChecks [w] s = none := dif_neg (by omega)

theorem breakLockChecks_none (h : 3 < w.toNat) : breakLockChecks [w] s = none := dif_neg (by omega)

theorem nodeSetChecks_none (h : 31 < w.toNat ∨ w.toNat = s.node.val ∨ 5 < v.toNat ∧ v ≠ noneWord) :
    nodeSetChecks [w, v] s = none := by
  rcases h with h | h | ⟨h, hv⟩
  · simp only [nodeSetChecks, nodeOfNat_none h]
  · simp only [nodeSetChecks, nodeOfNat_val h]
    cases nodeValue v with
    | none => rfl
    | some e => exact if_pos rfl
  · simp only [nodeSetChecks, nodeValue_none h hv]
    cases nodeOfNat w.toNat <;> rfl

theorem setNodeChecks_none (h : 31 < w.toNat) : setNodeChecks [w] s = none := by
  simp only [setNodeChecks, nodeOfNat_none h, Option.map_none]

theorem setManagerChecks_none (h : 5 < w.toNat ∨ ∃ p : Port, w.toNat = p.val ∧ (s.port p).link = .halted) :
    setManagerChecks [w] s = none := by
  rcases h with h | ⟨p, h, hl⟩
  · simp only [setManagerChecks, portOfNat_none h]
  · simp only [setManagerChecks, portOfNat_val h, hl, if_true]

theorem faultReadChecks_none (h : w.toNat = 0 ∨ 4 < w.toNat) : faultReadChecks [w] s = none := if_neg (by omega)

/-- The sequence guard stops every number but the oldest record's (R173). -/
theorem guardPasses_eq_false (h : ∀ f, s.faultList.records.head? = some f → f.seq.toNat ≠ v.toNat) :
    guardPasses v s = false := by
  unfold guardPasses
  split
  · rfl
  · next f rest hl =>
    refine beq_eq_false_iff_ne.2 fun he => h f (by rw [hl]; rfl) ?_
    rw [← he, BitVec.toNat_setWidth, Nat.mod_eq_of_lt (by omega)]

theorem faultPopChecks_none
    (h : (w.toNat = 0 ∨ 32 < w.toNat) ∨ ∀ f, s.faultList.records.head? = some f → f.seq.toNat ≠ v.toNat) :
    faultPopChecks [w, v] s = none := by
  rcases h with h | h
  · exact if_neg (by omega)
  · unfold faultPopChecks
    dsimp only
    rw [guardPasses_eq_false s h]
    split <;> rfl

theorem faultPolicyChecks_none (h : 1 < w.toNat) : faultPolicyChecks [w] s = none := by
  unfold faultPolicyChecks
  dsimp only
  rw [if_neg (ne_zero_one h).1, if_neg (ne_zero_one h).2]

theorem alertSetChecks_none (h : w.toNat = s.node.val ∨ 31 < w.toNat ∧ w ≠ noneWord) : alertSetChecks [w] s = none := by
  unfold alertSetChecks
  dsimp only
  rcases h with h | ⟨h, hw⟩
  · rw [if_neg (ne_noneWord h), nodeOfNat_val h]
    exact if_pos rfl
  · rw [if_neg hw, nodeOfNat_none h]

/-- A first argument that is no port, for each command that takes one (R35). -/
theorem checks_not_a_port {c : Command} {rest : List Word} (h : 5 < w.toNat) (hlen : (w :: rest).length = c.argCount)
    (hc : c = .portStatus ∨ c = .portEnable ∨ c = .portDisable ∨ c = .portRestart ∨ c = .fence ∨ c = .unfence ∨
      c = .setQuota ∨ c = .setDeadline ∨ c = .setManager) : c.checks (w :: rest) s = none := by
  have one := nothing_after_first hlen
  have two := one_after_first hlen
  rcases hc with rfl | rfl | rfl | rfl | rfl | rfl | rfl | rfl | rfl
  · rw [one rfl]; exact portArg_none s h
  · rw [one rfl]; exact portArg_none s h
  · rw [one rfl]; exact portArg_none s h
  · rw [one rfl]; exact portArg_none s h
  · rw [one rfl]; exact portArg_none s h
  · rw [one rfl]; exact portArg_none s h
  · obtain ⟨v, rfl⟩ := two rfl; exact quotaChecks_none s (.inl h)
  · obtain ⟨v, rfl⟩ := two rfl; exact deadlineChecks_none s (.inl h)
  · rw [one rfl]; exact setManagerChecks_none s (.inl h)

end

/-- Settles O39: each argument out of its range, by the value check that it fails. -/
theorem badArgumentsChangeNothing : Obligations.BadArgumentsChangeNothing := by
  rintro c d s h ⟨w, rest, ha, hlen, hbad⟩
  rw [exec_row]
  refine executeCommand_bad_value h ?_
  rw [ha] at hlen ⊢
  have one := nothing_after_first hlen
  have two := one_after_first hlen
  rcases hbad with ⟨hw, hc⟩ | ⟨hw, rfl | rfl⟩ | ⟨hw, rfl⟩ | ⟨hw, rfl | rfl⟩ | ⟨hw, rfl⟩ | ⟨hw, rfl⟩ | ⟨hw, rfl | rfl⟩ |
    ⟨hw, rfl | rfl⟩ | ⟨hw, hn, rfl⟩ | ⟨hw, rfl⟩ | ⟨hw, rfl⟩ | ⟨p, hw, hl, rfl⟩ |
    ⟨v, rfl, ⟨rfl, hv⟩ | ⟨rfl, hv⟩ | ⟨rfl, hv⟩ | ⟨rfl, hv⟩ | ⟨rfl, hv⟩⟩ | ⟨w1, w2, w3, w4, rfl, rfl, hw⟩
  · exact checks_not_a_port s hw hlen hc
  · rw [one rfl]; exact timeArg_none s hw
  · rw [one rfl]; exact timeArg_none s hw
  · exact tableWriteChecks_no_index s hw
  · obtain ⟨v, rfl⟩ := two rfl; exact tableReadChecks_none s (.inl hw)
  · rw [one rfl]; exact faultPolicyChecks_none s hw
  · rw [one rfl]; exact trackReadChecks_none s hw
  · rw [one rfl]; exact breakLockChecks_none s hw
  · obtain ⟨v, rfl⟩ := two rfl; exact nodeSetChecks_none s (.inl hw)
  · rw [one rfl]; exact setNodeChecks_none s hw
  · obtain ⟨v, rfl⟩ := two rfl; exact nodeSetChecks_none s (.inr (.inl hw))
  · rw [one rfl]; exact alertSetChecks_none s (.inl hw)
  · rw [one rfl]; exact alertSetChecks_none s (.inr ⟨hw, hn⟩)
  · rw [one rfl]; exact faultReadChecks_none s hw
  · obtain ⟨v, rfl⟩ := two rfl; exact faultPopChecks_none s (.inl hw)
  · rw [one rfl]; exact setManagerChecks_none s (.inr ⟨p, hw, hl⟩)
  · exact quotaChecks_none s (.inr hv)
  · exact deadlineChecks_none s (.inr hv)
  · exact tableReadChecks_none s (.inr hv)
  · exact nodeSetChecks_none s (.inr (.inr hv))
  · exact faultPopChecks_none s (.inr hv)
  · refine tableWriteChecks_not_encodable s fun he => ?_
    obtain ⟨h1, h2, h3⟩ := (encodable_iff w1).1 he
    rcases hw with hw | hw | hw
    · exact hw h1
    · exact hw h2
    · exact hw h3

/-! ### The Staging bank -/

/-- A modifying command that answers OK at once. -/
theorem executeCommand_done {c : Command} {d : Directive} {s : State} {checks : ValueChecks} {effect : State → State}
    (h : Accepted c d s) (hc : c.readOnly = false) (he : checks d.args s = some fun u => okDone (effect u)) :
    executeCommand c checks s = .next (settle (withReply d .ok [] (effect (claimedBy d s)))) := by
  rw [executeCommand_modifying h hc he]
  exact congrArg (fun u => Host.Outcome.next (settle u)) deliver_reply

theorem tableWriteChecks_some {i w1 w2 w3 w4 : Word} {k : Fin 48} (s : State) (hi : i.toNat = k.val)
    (he : encodable w1 = true) :
    tableWriteChecks [i, w1, w2, w3, w4] s = some fun u => okDone (writeStaging k (entryOfWords w1 w2 w3 w4) u) := by
  simp only [tableWriteChecks, windowIndex_val hi, he, if_true]

/-- The words of an entry 0 are 0 (R36, R45). -/
theorem entryWords_zero : entryWords .zero = [0#32, 0#32, 0#32, 0#32] := by decide

/-- Settles O45: each directive by what it makes of the Staging bank. -/
theorem stagingDirectivesEditTheStagingBank : Obligations.StagingDirectivesEditTheStagingBank := by
  refine ⟨fun i w1 w2 w3 w4 k d s h ha hi h22 h13 h3 => ?_, fun d s h ha => ?_, fun d s h ha => ?_⟩
  · refine ⟨entryOfWords w1 w2 w3 w4, executeCommand_done (effect := writeStaging k _) h rfl ?_, rfl, rfl, rfl, rfl, rfl, rfl,
      rfl, rfl⟩
    rw [ha]
    exact tableWriteChecks_some s hi ((encodable_iff w1).2 ⟨h22, h13, h3⟩)
  · refine ⟨Vector.replicate 48 .zero, executeCommand_done (effect := clearStaging) h rfl (noArgs_nil s ha), fun i => ?_⟩
    simpa using entryWords_zero
  · exact executeCommand_done (effect := discardStaging) h rfl (noArgs_nil s ha)

end Sys2Proof.Machine
end

end

section
-- One thread for all theorems: a thread for each takes a stack of its own, and there is no room for them all.
set_option Elab.async false

section
/-! CERTIFICATE. The Window Table: the lookup (R46 to R50), and the validation and copy of COMMIT (R59 to R62). -/

namespace Sys2Proof.Machine

open Sys2Proof

/-! ### The lowest index of a bank -/

theorem windowIndices_find?_eq_some {p : Fin 48 → Bool} {i : Fin 48} :
    windowIndices.find? p = some i ↔ p i = true ∧ ∀ j, j < i → ¬ p j = true := by
  rw [windowIndices, ← Fin.find?_eq_find?_finRange, Fin.find?_eq_some_iff]
  simp only [Bool.not_eq_true]

theorem windowIndices_find?_eq_none {p : Fin 48 → Bool} :
    windowIndices.find? p = none ↔ ∀ i, ¬ p i = true := by
  rw [windowIndices, ← Fin.find?_eq_find?_finRange, Fin.find?_eq_none_iff]
  simp only [Bool.not_eq_true]

/-! ### Lookup -/

theorem windowHolds_iff (e : WindowEntry) (a : Addr) :
    windowHolds e a = true ↔
      e.valid = true ∧ e.base.toNat ≤ a.toNat ∧ a.toNat < e.base.toNat + 2 ^ e.exponent.toNat := by
  simp only [windowHolds, Bool.and_eq_true, decide_eq_true_eq, and_assoc]
  exact Iff.rfl

theorem matchWindow_eq_some {bank : Bank} {a : Addr} {i : Fin 48} :
    matchWindow bank a = some i ↔
      windowHolds bank[i] a = true ∧ ∀ j : Fin 48, j < i → ¬ windowHolds bank[j] a = true :=
  windowIndices_find?_eq_some

theorem matchWindow_eq_none {bank : Bank} {a : Addr} :
    matchWindow bank a = none ↔ ∀ i : Fin 48, ¬ windowHolds bank[i] a = true :=
  windowIndices_find?_eq_none

theorem lookup_unmatched {bank : Bank} {x : Port} {r : Request} (h : matchWindow bank r.addr = none) :
    lookup bank x r = .noRoute := by
  rw [lookup, h]

theorem lookup_matched {bank : Bank} {x : Port} {r : Request} {i : Fin 48} (h : matchWindow bank r.addr = some i) :
    lookup bank x r = decideWindow i bank[i] x r := by
  rw [lookup, h]

/-- Settles O26: the search goes through the bank from index 0 upward. -/
theorem lookupTakesTheLowestWindow : Obligations.LookupTakesTheLowestWindow := by
  intro bank a
  refine ⟨fun i => windowHolds bank[i] a = true, fun i => windowHolds_iff bank[i] a, fun i => matchWindow_eq_some,
    matchWindow_eq_none, fun x r ha h => lookup_unmatched ?_⟩
  rw [ha]
  exact matchWindow_eq_none.2 h

/-! ### The matching entry -/

theorem spanLength_pathLock {r : Request} (h : r.kind = .claim ∨ r.kind = .release) : spanLength r = 4 := by
  rcases h with h | h <;> simp only [spanLength, h]

theorem spanLength_memory {r : Request} (hc : r.kind ≠ .claim) (hr : r.kind ≠ .release) :
    spanLength r = 4 * r.length.toNat := by
  unfold spanLength
  split
  · contradiction
  · contradiction
  · rfl

section

variable {i : Fin 48} {e : WindowEntry} {x : Port} {r : Request}

theorem decideWindow_span (h : e.base.toNat + 2 ^ e.exponent.toNat < r.addr.toNat + spanLength r) :
    decideWindow i e x r = .noRoute :=
  if_pos h

theorem decideWindow_denied (hs : r.addr.toNat + spanLength r ≤ e.base.toNat + 2 ^ e.exponent.toNat)
    (h : windowPermits e x r.kind = false) : decideWindow i e x r = .denied i := by
  have hspan : ¬ e.base.toNat + windowSize e < r.addr.toNat + spanLength r := Nat.not_lt.2 hs
  rw [decideWindow, if_neg hspan, h]
  rfl

theorem decideWindow_routed {d : Port} (hs : r.addr.toNat + spanLength r ≤ e.base.toNat + 2 ^ e.exponent.toNat)
    (h : windowPermits e x r.kind = true) (hd : e.dest.toNat = d.val) :
    decideWindow i e x r = .routed i d (outboundAddr e r.addr) := by
  have hspan : ¬ e.base.toNat + windowSize e < r.addr.toNat + spanLength r := Nat.not_lt.2 hs
  have hport : portOfNat e.dest.toNat = some d := by simp [portOfNat, hd]
  rw [decideWindow, if_neg hspan, h, if_pos rfl, hport]

end

theorem baseGood_iff (e : WindowEntry) (b : Addr) :
    baseGood e b = true ↔
      b.toNat % 2 ^ e.exponent.toNat = 0 ∧ b.toNat + 2 ^ e.exponent.toNat ≤ 2 ^ 48 := by
  simp only [baseGood, Bool.and_eq_true, beq_iff_eq, decide_eq_true_eq]
  exact Iff.rfl

theorem outboundAddr_untranslated {e : WindowEntry} (a : Addr) (h : e.translated = false) : outboundAddr e a = a :=
  if_neg (Bool.eq_false_iff.1 h)

/-- The translated address keeps the offset: neither the offset nor the sum wraps (R50, R60). -/
theorem outboundAddr_translated {e : WindowEntry} {a : Addr} (ht : e.translated = true)
    (h : windowHolds e a = true) (hg : baseGood e e.translatedBase = true) :
    (outboundAddr e a).toNat = e.translatedBase.toNat + (a.toNat - e.base.toNat) := by
  obtain ⟨-, hlow, hhigh⟩ := (windowHolds_iff e a).1 h
  obtain ⟨-, hfit⟩ := (baseGood_iff e e.translatedBase).1 hg
  rw [outboundAddr, if_pos ht, BitVec.toNat_add, BitVec.toNat_sub_of_le hlow, Nat.mod_eq_of_lt (by omega)]

/-- The conditions of R60, one by one. -/
theorem entryPasses_iff (e : WindowEntry) :
    entryPasses e = true ↔
      (12 ≤ e.exponent.toNat ∧ e.exponent.toNat ≤ 47) ∧ baseGood e e.base = true ∧
        (e.translated = false ∨ baseGood e e.translatedBase = true) ∧ e.dest.toNat ≤ 5 ∧ e.origins ≠ 0#6 ∧
        e.kinds ≠ 0#5 := by
  simp [entryPasses, and_assoc]

/-- Settles O27: the entry that matches is asked for its span, its permissions and its route, in this order. -/
theorem theMatchingEntryDecides : Obligations.TheMatchingEntryDecides := by
  intro bank x r i hm _ _
  have memory {k : ReqKind} (h : r.kind = k) (hc : k ≠ .claim) (hr : k ≠ .release) :
      spanLength r = 4 * r.length.toNat ∧ kindBit r.kind = kindBit k :=
    ⟨spanLength_memory (by rwa [h]) (by rwa [h]), by rw [h]⟩
  refine ⟨bank[i], spanLength r, kindBit r.kind, rfl, fun hk => ⟨spanLength_pathLock hk, ?_⟩,
    fun hk => memory hk (by simp) (by simp), fun hk => memory hk (by simp) (by simp),
    fun hk => memory hk (by simp) (by simp), fun hk => memory hk (by simp) (by simp),
    fun hs => ?_, fun hs => ⟨fun hp => ?_, fun ho hk hpass => ?_⟩⟩
  · rcases hk with hk | hk <;> rw [hk] <;> rfl
  · rw [lookup_matched hm, decideWindow_span hs]
  · rw [lookup_matched hm, decideWindow_denied hs (Bool.and_eq_false_iff.2 hp)]
  · obtain ⟨-, -, htrans, hdest, -, -⟩ := (entryPasses_iff bank[i]).1 hpass
    obtain ⟨d, hd⟩ : ∃ d : Port, bank[i].dest.toNat = d.val := ⟨⟨bank[i].dest.toNat, by omega⟩, rfl⟩
    refine ⟨d, outboundAddr bank[i] r.addr, ?_, hd.symm, outboundAddr_untranslated r.addr, fun ht => ?_⟩
    · rw [lookup_matched hm, decideWindow_routed hs (Bool.and_eq_true_iff.2 ⟨ho, hk⟩) hd]
    · have hgood := htrans.resolve_left (by rw [ht]; simp)
      exact outboundAddr_translated ht (matchWindow_eq_some.1 hm).1 hgood

/-! ### COMMIT -/

/-- Entry `i` of a bank is valid and fails validation (R60). -/
def failsValidation (bank : Bank) (i : Fin 48) : Bool := bank[i].valid && !entryPasses bank[i]

/-- Window `i` is locked and its entries in the two banks differ (R61). -/
def lockConflicts (w : WindowTable) (locks : Vector (Option Lock) 4) (i : Fin 48) : Bool :=
  windowLocked locks i && w.staging[i] != w.active[i]

theorem firstFailing_eq_some {bank : Bank} {i : Fin 48} :
    firstFailing bank = some i ↔ failsValidation bank i = true ∧ ∀ j, j < i → ¬ failsValidation bank j = true :=
  windowIndices_find?_eq_some

theorem firstFailing_eq_none {bank : Bank} : firstFailing bank = none ↔ ∀ i, ¬ failsValidation bank i = true :=
  windowIndices_find?_eq_none

theorem firstConflict_eq_some {w : WindowTable} {locks : Vector (Option Lock) 4} {i : Fin 48} :
    firstConflict w locks = some i ↔ lockConflicts w locks i = true ∧ ∀ j, j < i → ¬ lockConflicts w locks j = true :=
  windowIndices_find?_eq_some

theorem firstConflict_eq_none {w : WindowTable} {locks : Vector (Option Lock) 4} :
    firstConflict w locks = none ↔ ∀ i, ¬ lockConflicts w locks i = true :=
  windowIndices_find?_eq_none

theorem failsValidation_iff (bank : Bank) (i : Fin 48) :
    failsValidation bank i = true ↔ bank[i].valid = true ∧ ¬ entryPasses bank[i] = true := by
  simp [failsValidation]

theorem windowLocked_iff (locks : Vector (Option Lock) 4) (i : Fin 48) :
    windowLocked locks i = true ↔ ∃ (r : Fin 4) (l : Lock), locks[r] = some l ∧ l.window = i := by
  rw [windowLocked, Vector.any_toList, Vector.any_eq_true]
  constructor
  · rintro ⟨r, hr, hl⟩
    cases e : locks[r] with
    | none => simp [e] at hl
    | some l => exact ⟨⟨r, hr⟩, l, e, by simpa [e] using hl⟩
  · rintro ⟨r, l, hl, hw⟩
    rw [Fin.getElem_fin] at hl
    exact ⟨r.val, r.isLt, by simp [hl, hw]⟩

theorem lockConflicts_iff (w : WindowTable) (locks : Vector (Option Lock) 4) (i : Fin 48) :
    lockConflicts w locks i = true ↔
      (∃ (r : Fin 4) (l : Lock), locks[r] = some l ∧ l.window = i) ∧ w.staging[i] ≠ w.active[i] := by
  rw [lockConflicts, Bool.and_eq_true, windowLocked_iff, bne_iff_ne]

theorem commitTable_invalid {s : State} {i : Fin 48} (h : firstFailing s.windows.staging = some i) :
    commitTable s = reply .invalidEntry [BitVec.ofNat 32 i.val] s := by
  rw [commitTable, h]
  rfl

theorem commitTable_conflict {s : State} {i : Fin 48} (hf : firstFailing s.windows.staging = none)
    (h : firstConflict s.windows s.locks = some i) :
    commitTable s = reply .lockConflict [BitVec.ofNat 32 i.val] s := by
  rw [commitTable, hf, h]
  rfl

theorem commitTable_copies {s : State} (hf : firstFailing s.windows.staging = none)
    (h : firstConflict s.windows s.locks = none) :
    commitTable s =
      reply .ok [(s.windows.generation + 1#16).setWidth 32] { s with windows := committed s.windows } := by
  rw [commitTable, hf, h]
  rfl

/-- COMMIT answers what the Window Table answers, once the manager port is claimed (R59, R141). -/
theorem exec_commit {d : Directive} {s u : State} {st : Status} {payload : List Word} (h : Accepted .commit d s)
    (ha : d.args = []) (hc : commitTable (claimedBy d s) = reply st payload u) :
    exec .commit s = .next (settle (withReply d st payload u)) := by
  show executeCommand .commit (noArgs commitTable) s = _
  rw [executeCommand_modifying h rfl (noArgs_nil s ha), hc, deliver_reply]

/-- Settles O46: validation first, then the locks, then the copy. -/
theorem commitValidatesThenCopies : Obligations.CommitValidatesThenCopies := by
  intro d s h ha
  refine ⟨fun i => failsValidation s.windows.staging i = true, fun i => lockConflicts s.windows s.locks i = true,
    fun i => (failsValidation_iff s.windows.staging i).trans ?_, lockConflicts_iff s.windows s.locks,
    fun i hi hlow => ?_, fun i hf hi hlow => ?_, fun hf hc => ?_⟩
  · rw [entryPasses_iff, baseGood_iff, baseGood_iff]
  · exact exec_commit h ha (commitTable_invalid (firstFailing_eq_some.2 ⟨hi, hlow⟩))
  · exact exec_commit h ha (commitTable_conflict (firstFailing_eq_none.2 hf) (firstConflict_eq_some.2 ⟨hi, hlow⟩))
  · exact exec_commit h ha (commitTable_copies (firstFailing_eq_none.2 hf) (firstConflict_eq_none.2 hc))

end Sys2Proof.Machine
end

section
/-! SUPPORT. What a command of the router comes to, said once: the effects that the value checks of the directives give, and
the effects of all events that the router comes to rest after. -/

namespace Sys2Proof.Machine

open Sys2Proof

/-- The effects that the value checks of the commands give in a state `s` (step 4 of R132). -/
inductive DirectiveEffect (s : State) : (State → DirResult) → Prop where
  /-- A read: OK with words of the state (R34, R139). -/
  | read (words : State → List Word) : DirectiveEffect s fun u => reply .ok (words u) u
  /-- A deferred action (R135). -/
  | deferred (k : ActionKind) : DirectiveEffect s (okDeferred k)
  /-- PORT_ENABLE (R148). -/
  | enabled (p : Port) : DirectiveEffect s fun u => okDone (enablePort p u)
  /-- FENCE (R152). -/
  | fenced (p : Port) : DirectiveEffect s fun u => okDone (setFence p u)
  /-- UNFENCE (R153). -/
  | unfenced (p : Port) : DirectiveEffect s fun u => okDone (clearFence p u)
  /-- A value of the configuration (R154, R155, R156). -/
  | configured (f : Settings → Settings) : DirectiveEffect s fun u => okDone { u with settings := f u.settings }
  /-- An edit of the Staging bank alone (R55, R57, R58). -/
  | staged (f : WindowTable → Bank) :
      DirectiveEffect s fun u => okDone { u with windows := { u.windows with staging := f u.windows } }
  /-- COMMIT (R59). -/
  | committed : DirectiveEffect s commitTable
  /-- BREAK_LOCK (R118). -/
  | lockBroken (r : Fin 4) : DirectiveEffect s fun u => okDone (breakRecord .directive r u)
  /-- NODE_SET: never on the own node number, and never with SELF (R124). -/
  | nodeWritten (n : Node) (e : NodeEntry) : n ≠ s.node → e ≠ .self →
      DirectiveEffect s fun u => okDone (writeNode n e u)
  /-- SET_MANAGER: a port that is not HALTED (R143). -/
  | managerSet (p : Port) : (s.port p).link ≠ .halted →
      DirectiveEffect s fun u => okDone { u with manager := some p }
  /-- FAULT_POP (R173). -/
  | faultsPopped (n : Nat) : DirectiveEffect s fun u => okDone (popFaults n u)
  /-- FAULT_POLICY (R175). -/
  | policySet (p : Policy) : DirectiveEffect s fun u => okDone (putPolicy p u)
  /-- ALERT_SET (R180). -/
  | alertNodeSet (v : Option Node) : DirectiveEffect s fun u => okDone (putAlertNode v u)
  /-- ALERT_ARM (R181). -/
  | alertArmed : DirectiveEffect s fun u => okDone (armAlert u)

/-- Every effect that the checks give is one of these. -/
def ValueChecks.Give (checks : ValueChecks) : Prop :=
  ∀ args s effect, checks args s = some effect → DirectiveEffect s effect

theorem noArgs_give {effect : State → DirResult} (h : ∀ s, DirectiveEffect s effect) : (noArgs effect).Give := by
  intro args s e he
  cases args with
  | nil => obtain rfl := Option.some.inj he
           exact h s
  | cons => cases he

theorem portArg_give {effect : Port → State → DirResult} (h : ∀ p s, DirectiveEffect s (effect p)) :
    (portArg effect).Give := by
  intro args s e he
  unfold portArg at he
  split at he
  · obtain ⟨p, -, rfl⟩ := Option.map_eq_some_iff.1 he
    exact h p s
  · cases he

theorem timeArg_give {effect : Nat → State → DirResult} (h : ∀ n s, DirectiveEffect s (effect n)) :
    (timeArg effect).Give := by
  intro args s e he
  unfold timeArg at he
  split at he
  · obtain ⟨n, -, rfl⟩ := Option.map_eq_some_iff.1 he
    exact h n s
  · cases he

theorem quotaChecks_give : quotaChecks.Give := by
  intro args s e he
  unfold quotaChecks at he
  split at he
  · next w q =>
    split at he
    · cases he
    · next p _ =>
      split at he
      · obtain rfl := Option.some.inj he
        exact .configured fun c => { c with quota := c.quota.set p q.toNat }
      · cases he
  · cases he

theorem deadlineChecks_give : deadlineChecks.Give := by
  intro args s e he
  unfold deadlineChecks at he
  split at he
  · split at he
    · next p n _ _ =>
      obtain rfl := Option.some.inj he
      exact .configured fun c => { c with deadline := c.deadline.set p n }
    · cases he
  · cases he

theorem tableWriteChecks_give : tableWriteChecks.Give := by
  intro args s e he
  unfold tableWriteChecks at he
  split at he
  · next w1 w2 w3 w4 =>
    split at he
    · cases he
    · next k _ =>
      split at he
      · obtain rfl := Option.some.inj he
        exact .staged fun t => t.staging.set k (entryOfWords w1 w2 w3 w4)
      · cases he
  · cases he

theorem tableReadChecks_give : tableReadChecks.Give := by
  intro args s e he
  unfold tableReadChecks at he
  split at he
  · split at he
    · cases he
    · next k _ =>
      split at he
      · obtain rfl := Option.some.inj he
        exact .read fun u => entryWords (bankEntry false k u)
      · split at he
        · obtain rfl := Option.some.inj he
          exact .read fun u => entryWords (bankEntry true k u)
        · cases he
  · cases he

theorem trackReadChecks_give : trackReadChecks.Give := by
  intro args s e he
  unfold trackReadChecks at he
  split at he
  · next w =>
    split at he
    · obtain rfl := Option.some.inj he
      exact .read fun u => trackWords u.track[w.toNat]
    · cases he
  · cases he

theorem breakLockChecks_give : breakLockChecks.Give := by
  intro args s e he
  unfold breakLockChecks at he
  split at he
  · split at he
    · obtain rfl := Option.some.inj he
      exact .lockBroken _
    · cases he
  · cases he

/-- The value of NODE_SET is a port or UNREACHABLE (R124). -/
theorem nodeValue_ne_self {w : Word} {e : NodeEntry} (h : nodeValue w = some e) : e ≠ .self := by
  unfold nodeValue at h
  split at h
  · obtain rfl := Option.some.inj h
    simp
  · obtain ⟨p, -, rfl⟩ := Option.map_eq_some_iff.1 h
    simp

theorem nodeSetChecks_give : nodeSetChecks.Give := by
  intro args s e he
  unfold nodeSetChecks at he
  split at he
  · split at he
    · next hv =>
      split at he
      · cases he
      · next hn =>
        obtain rfl := Option.some.inj he
        exact .nodeWritten _ _ hn (nodeValue_ne_self hv)
    · cases he
  · cases he

theorem setNodeChecks_give : setNodeChecks.Give := by
  intro args s e he
  unfold setNodeChecks at he
  split at he
  · obtain ⟨n, -, rfl⟩ := Option.map_eq_some_iff.1 he
    exact .deferred (.setNode n)
  · cases he

theorem setManagerChecks_give : setManagerChecks.Give := by
  intro args s e he
  unfold setManagerChecks at he
  split at he
  · split at he
    · cases he
    · split at he
      · cases he
      · next hl =>
        obtain rfl := Option.some.inj he
        exact .managerSet _ hl
  · cases he

theorem faultReadChecks_give : faultReadChecks.Give := by
  intro args s e he
  unfold faultReadChecks at he
  split at he
  · next w =>
    split at he
    · obtain rfl := Option.some.inj he
      exact .read fun u => (u.faultList.records.take w.toNat).flatMap faultWords
    · cases he
  · cases he

theorem faultPopChecks_give : faultPopChecks.Give := by
  intro args s e he
  unfold faultPopChecks at he
  split at he
  · split at he
    · split at he
      · obtain rfl := Option.some.inj he
        exact .faultsPopped _
      · cases he
    · cases he
  · cases he

theorem faultPolicyChecks_give : faultPolicyChecks.Give := by
  intro args s e he
  unfold faultPolicyChecks at he
  split at he
  · split at he
    · obtain rfl := Option.some.inj he
      exact .policySet .keepOldest
    · split at he
      · obtain rfl := Option.some.inj he
        exact .policySet .keepNewest
      · cases he
  · cases he

theorem alertSetChecks_give : alertSetChecks.Give := by
  intro args s e he
  unfold alertSetChecks at he
  split at he
  · split at he
    · obtain rfl := Option.some.inj he
      exact .alertNodeSet none
    · split at he
      · cases he
      · split at he
        · cases he
        · obtain rfl := Option.some.inj he
          exact .alertNodeSet (some _)
  · cases he

/-- The value checks of every command give one of these effects. -/
theorem Command.checks_give (c : Command) : c.checks.Give := by
  cases c with
  | identify => exact noArgs_give fun s => .read identifyWords
  | portStatus => exact portArg_give fun p s => .read (statusWords p)
  | portEnable => exact portArg_give fun p s => .enabled p
  | portDisable => exact portArg_give fun p s => .deferred (.disable p)
  | portRestart => exact portArg_give fun p s => .deferred (.restart p)
  | fence => exact portArg_give fun p s => .fenced p
  | unfence => exact portArg_give fun p s => .unfenced p
  | setQuota => exact quotaChecks_give
  | setDeadline => exact deadlineChecks_give
  | setTombstone => exact timeArg_give fun n s => .configured fun c => { c with tombstone := n }
  | setLockLimit => exact timeArg_give fun n s => .configured fun c => { c with holdLimit := n }
  | resetRouter => exact noArgs_give fun s => .deferred .resetRouter
  | tableWrite => exact tableWriteChecks_give
  | tableRead => exact tableReadChecks_give
  | tableClear => exact noArgs_give fun s => .staged fun _ => Vector.replicate 48 .zero
  | commit => exact noArgs_give fun s => .committed
  | discard => exact noArgs_give fun s => .staged WindowTable.active
  | trackRead => exact trackReadChecks_give
  | lockRead => exact noArgs_give fun s => .read fun u => lockIndices.map fun r => lockWord u.locks[r]
  | breakLock => exact breakLockChecks_give
  | nodeSet => exact nodeSetChecks_give
  | nodeRead => exact noArgs_give fun s => .read fun u => [0, 1, 2, 3].map (nodeWord u)
  | setNode => exact setNodeChecks_give
  | setManager => exact setManagerChecks_give
  | faultRead => exact faultReadChecks_give
  | faultPop => exact faultPopChecks_give
  | faultPolicy => exact faultPolicyChecks_give
  | alertSet => exact alertSetChecks_give
  | alertArm => exact noArgs_give fun s => .alertArmed

/-! ### Events -/

/-- The effects of the events that may occur in a state `s` while RST# is high, before the router comes to rest; the edges
of RST# and the tick of the Time Base are apart. -/
inductive EventEffect (s : State) : State → Prop where
  /-- The HELLO timer expires (R3). -/
  | helloDue (p : Port) : (s.port p).link = .training → (s.port p).helloTimer = some 0 →
      EventEffect s (sendHello p (s.modifyPort p fun r => { r with helloTimer := some Config.helloPeriod }))
  /-- The attempt timer expires (R7). -/
  | attemptEnded (p : Port) : (s.port p).link = .training → (s.port p).attemptTimer = some 0 →
      EventEffect s (endAttempt p s)
  /-- A HELLO is accepted (R5, R6). -/
  | helloAccepted (p : Port) (n : Node) (a b : Byte) (f : Bool) : (s.port p).link = .training →
      offersGood a b = true → EventEffect s (acceptHello p n ⟨a.toNat, b.toNat⟩ f s)
  /-- A HELLO restarts the link (R12). -/
  | peerRestarted (p : Port) (n : Node) (a b : Byte) : (s.port p).link = .up →
      EventEffect s (firstOfTraining p n a b false (linkLoss p .peerRestart s))
  /-- A damaged parcel arrives (R10). -/
  | damaged (p : Port) : (s.port p).link = .up → EventEffect s (linkLoss p .linkCheck s)
  /-- A request arrives (R11). -/
  | requestReceived (p : Port) (c : Credits) (r : Request) : (s.port p).link = .up →
      EventEffect s (receiveRequest p c r s)
  /-- A reply arrives (R11). -/
  | replyReceived (p : Port) (c : Credits) (r : Reply) : (s.port p).link = .up → EventEffect s (receiveReply p c r s)
  /-- A CREDIT arrives (R16). -/
  | creditReceived (p : Port) (c : Credits) : (s.port p).link = .up → EventEffect s (takeCredits p c s)
  /-- A parcel of unknown kind arrives (R11). -/
  | unknownKindReceived (p : Port) : (s.port p).link = .up → EventEffect s (raiseFault (unknownKindReport p) s)
  /-- A parcel has left (R19). -/
  | parcelLeft (p : Port) (t : Transmission) : (s.port p).tx = some t → EventEffect s (parcelGone p t s)
  /-- The head of a reply lane names no entry (R93). -/
  | replyStray (p : Port) (r : Reply) (rest : List Reply) : (s.port p).repLane = r :: rest →
      entryIndex r.tag = none → EventEffect s (discardReply p .strayReply r s)
  /-- The head of a reply lane is judged by the entry it names (R93). -/
  | replyJudged (p : Port) (r : Reply) (rest : List Reply) (i : Fin 64) : (s.port p).repLane = r :: rest →
      entryIndex r.tag = some i → EventEffect s (judgeReply p r i s)
  /-- The deadline of an ACTIVE entry expires (R96). -/
  | deadline (i : Fin 64) (e : TrackEntry) : s.track[i] = some e → e.state = .active false → e.time = 0 →
      EventEffect s (placeSynth i e .timeout (raiseFault (timeoutReport i e) s))
  /-- The deadline of an ORPHANED entry expires (R97). -/
  | orphanDeadline (i : Fin 64) (e : TrackEntry) : s.track[i] = some e → e.state = .orphaned → e.time = 0 →
      EventEffect s (toTombstone i e s)
  /-- A TOMBSTONE entry expires (R99). -/
  | tombstoneEnded (i : Fin 64) (e : TrackEntry) : s.track[i] = some e → e.state = .tombstone → e.time = 0 →
      EventEffect s (setEntry i none s)
  /-- The hold limit of a lock expires (R114). -/
  | holdEnded (r : Fin 4) (l : Lock) : s.locks[r] = some l → l.hold = 0 → EventEffect s (breakRecord .expired r s)
  /-- A directive is executed (R131, R132). -/
  | executed (c : Command) (d : Directive) : s.mgmt = .executing d → d.command = c.code →
      EventEffect s (deliver d (runCommand c c.checks d s))
  /-- A directive with an unknown command is executed (R132). -/
  | executedUnknown (d : Directive) : s.mgmt = .executing d → commandOfCode d.command = none →
      EventEffect s (deliver d (reply .badCommand [] s))

/-- What a command of the router comes to in the state `s`. -/
inductive CommandEffect (s : State) : State → Prop where
  /-- The event does not occur, or changes nothing (log entry 3). -/
  | none : CommandEffect s s
  /-- The falling edge of RST# (R182). -/
  | resetAsserted : s.resetLow = false → CommandEffect s (assertReset s)
  /-- The rising edge of RST# (R183). -/
  | resetReleased (n : Node) (m : Option Port) : s.resetLow = true →
      CommandEffect s { State.cold n m with pending := s.pending, freeUsed := s.freeUsed }
  /-- The Time Base ticks (R185). -/
  | ticked : s.resetLow = false → CommandEffect s (tick s)
  /-- An event takes place, and the router comes to rest. -/
  | event (u : State) : s.resetLow = false → EventEffect s u → CommandEffect s (settle u)

theorem commandEffect_whenRunning {s t : State} {effect : State → State}
    (h : s.resetLow = false → CommandEffect s (effect s)) (ht : whenRunning s effect = .next t) : CommandEffect s t := by
  unfold whenRunning at ht
  split at ht
  · obtain rfl := Host.Outcome.next.inj ht
    exact .none
  · next hl =>
    obtain rfl := Host.Outcome.next.inj ht
    exact h (by simpa using hl)

theorem commandEffect_row (c : Command) {s t : State} (h : exec c.row s = .next t) : CommandEffect s t := by
  rw [exec_row] at h
  refine commandEffect_whenRunning (fun hl => ?_) h
  split
  · next d hd =>
    split
    · next hc => exact .event _ hl (.executed c d hd hc)
    · exact .none
  · exact .none

/-- Every command comes to one of these effects: the events one by one, and then the rows of the directives. -/
theorem exec_effect (c : Instr) {s t : State} (h : exec c s = .next t) : CommandEffect s t := by
  have row (k : ∃ k ∈ allCommands, c = k.row) : CommandEffect s t := by
    obtain ⟨k, -, rfl⟩ := k
    exact commandEffect_row k h
  cases c <;> dsimp only [exec] at h
  case coldResetAssert => exact commandEffect_whenRunning .resetAsserted h
  case coldResetRelease n m =>
    unfold execColdResetRelease at h
    split at h
    · next hl =>
      obtain rfl := Host.Outcome.next.inj h
      exact .resetReleased _ _ hl
    · obtain rfl := Host.Outcome.next.inj h
      exact .none
  case timeBaseTick => exact commandEffect_whenRunning .ticked h
  case helloTimerExpiry p =>
    refine commandEffect_whenRunning (fun hl => ?_) h
    split
    · next hp => exact .event _ hl (.helloDue p hp.1 hp.2)
    · exact .none
  case attemptTimerExpiry p =>
    refine commandEffect_whenRunning (fun hl => ?_) h
    split
    · next hp => exact .event _ hl (.attemptEnded p hp.1 hp.2)
    · exact .none
  case helloAccept p bytes =>
    refine commandEffect_whenRunning (fun hl => ?_) h
    split
    · next hp =>
      split
      · next hg => exact .event _ hl (.helloAccepted p _ _ _ _ hp hg)
      · exact .none
    · exact .none
  case helloReceiveUp p bytes =>
    refine commandEffect_whenRunning (fun hl => ?_) h
    split
    · next hp => exact .event _ hl (.peerRestarted p _ _ _ hp)
    · exact .none
  case damagedParcel p bytes =>
    refine commandEffect_whenRunning (fun hl => ?_) h
    split
    · next hp => exact .event _ hl (.damaged p hp)
    · exact .none
  case parcelDiscardInactive p bytes =>
    obtain rfl := Host.Outcome.next.inj h
    exact .none
  case requestParcelReceive p bytes =>
    refine commandEffect_whenRunning (fun hl => ?_) h
    split
    · next hp => exact .event _ hl (.requestReceived p _ _ hp)
    · exact .none
  case replyParcelReceive p bytes =>
    refine commandEffect_whenRunning (fun hl => ?_) h
    split
    · next hp => exact .event _ hl (.replyReceived p _ _ hp)
    · exact .none
  case creditReceive p bytes =>
    refine commandEffect_whenRunning (fun hl => ?_) h
    split
    · next hp => exact .event _ hl (.creditReceived p _ hp)
    · exact .none
  case unknownKindReceive p bytes =>
    refine commandEffect_whenRunning (fun hl => ?_) h
    split
    · next hp => exact .event _ hl (.unknownKindReceived p hp)
    · exact .none
  case parcelLeft p =>
    refine commandEffect_whenRunning (fun hl => ?_) h
    split
    · exact .none
    · next hp => exact .event _ hl (.parcelLeft p _ hp)
  case replyMatch p =>
    refine commandEffect_whenRunning (fun hl => ?_) h
    split
    · exact .none
    · next hp =>
      split
      · next hi => exact .event _ hl (.replyStray p _ _ hp hi)
      · next hi => exact .event _ hl (.replyJudged p _ _ _ hp hi)
  case deadlineExpiry i =>
    refine commandEffect_whenRunning (fun hl => ?_) h
    split
    · next e he =>
      split
      · next hd => exact .event _ hl (.deadline i e he hd.1 hd.2)
      · exact .none
    · exact .none
  case orphanDeadlineExpiry i =>
    refine commandEffect_whenRunning (fun hl => ?_) h
    split
    · next e he =>
      split
      · next hd => exact .event _ hl (.orphanDeadline i e he hd.1 hd.2)
      · exact .none
    · exact .none
  case tombstoneExpiry i =>
    refine commandEffect_whenRunning (fun hl => ?_) h
    split
    · next e he =>
      split
      · next hd => exact .event _ hl (.tombstoneEnded i e he hd.1 hd.2)
      · exact .none
    · exact .none
  case lockHoldExpiry r =>
    refine commandEffect_whenRunning (fun hl => ?_) h
    split
    · next l hr =>
      split
      · next hd => exact .event _ hl (.holdEnded r l hr hd)
      · exact .none
    · exact .none
  case unknownCommand =>
    refine commandEffect_whenRunning (fun hl => ?_) h
    split
    · next d hd =>
      split
      · next hc => exact .event _ hl (.executedUnknown d hd (Option.isNone_iff_eq_none.1 hc))
      · exact .none
    · exact .none
  case trainingParcelDiscard p bytes =>
    obtain rfl := Host.Outcome.next.inj h
    exact .none
  all_goals exact row (by decide)

/-- One step: the command at the front of the queue comes to its effect on the state with the queue's rest. -/
theorem step_effect {s t : State} (h : step s = .next t) :
    ∃ queue, CommandEffect { s with pending := queue } t := by
  unfold step at h
  split at h
  · obtain rfl := Host.Outcome.next.inj h
    exact ⟨s.pending, .none⟩
  · next c rest _ => exact ⟨rest, exec_effect c h⟩

end Sys2Proof.Machine
end

section
/-! CERTIFICATE. The laws of the Window Table and the Node Table, which every step keeps (R44, R123). -/

namespace Sys2Proof.Machine

open Sys2Proof

/-- Both table laws are kept from `s` to `t`. -/
def KeepsTableLaws (s t : State) : Prop := (WindowLaw s → WindowLaw t) ∧ (NodeLaw s → NodeLaw t)

theorem KeepsTableLaws.refl (s : State) : KeepsTableLaws s s := ⟨id, id⟩

theorem KeepsTableLaws.trans {s t u : State} (h : KeepsTableLaws s t) (k : KeepsTableLaws t u) : KeepsTableLaws s u :=
  ⟨k.1 ∘ h.1, k.2 ∘ h.2⟩

/-- The laws read the Active bank, the node number and the Node Table alone. -/
theorem keepsTableLaws_of_same {s t : State} (hw : t.windows.active = s.windows.active := by rfl)
    (hn : t.node = s.node := by rfl) (ht : t.nodeTable = s.nodeTable := by rfl) : KeepsTableLaws s t := by
  unfold KeepsTableLaws WindowLaw NodeLaw
  rw [hw, hn, ht]
  exact ⟨id, id⟩

theorem SameSetup.keepsTableLaws {s t : State} (h : SameSetup s t) : KeepsTableLaws s t := by
  obtain ⟨-, -, -, hnode, htable, hwindows, -⟩ := h
  exact keepsTableLaws_of_same (by rw [hwindows]) hnode htable

/-- A change of other blocks before. -/
theorem KeepsTableLaws.after {s u t : State} (h : KeepsTableLaws u t)
    (hw : u.windows.active = s.windows.active := by rfl) (hn : u.node = s.node := by rfl)
    (ht : u.nodeTable = s.nodeTable := by rfl) : KeepsTableLaws s t :=
  (keepsTableLaws_of_same hw hn ht).trans h

theorem keepsTableLaws_raiseFault (r : FaultReport) (s : State) : KeepsTableLaws s (raiseFault r s) :=
  (sameSetup_raiseFault r s).keepsTableLaws

theorem keepsTableLaws_routeCheck (s : State) : KeepsTableLaws s (routeCheck s) :=
  (sameSetup_routeCheck s).keepsTableLaws

theorem keepsTableLaws_popReply (p : Port) (s : State) : KeepsTableLaws s (popReply p s) :=
  (sameSetup_popReply p s).keepsTableLaws

theorem keepsTableLaws_setEntry (i : Fin 64) (e : Option TrackEntry) (s : State) : KeepsTableLaws s (setEntry i e s) :=
  (sameSetup_setEntry i e s).keepsTableLaws

theorem keepsTableLaws_toTombstone (i : Fin 64) (e : TrackEntry) (s : State) : KeepsTableLaws s (toTombstone i e s) :=
  (sameSetup_toTombstone i e s).keepsTableLaws

theorem keepsTableLaws_settle (s : State) : KeepsTableLaws s (settle s) :=
  settle_keeps (KeepsTableLaws s) s (.refl s) fun a u k hu _ =>
    hu.trans (sameSetup_doInternal a { u with freeUsed := k }).keepsTableLaws.after

/-! ### The changes of the tables -/

/-- The Node Table changes at a number that is not the own one, and not to SELF (R124). -/
theorem keepsTableLaws_writeNode {n : Node} {e : NodeEntry} {s : State} (hn : n ≠ s.node) (he : e ≠ .self) :
    KeepsTableLaws s (writeNode n e s) := by
  unfold writeNode
  split
  · exact .refl s
  · refine KeepsTableLaws.trans (t := { s with nodeTable := s.nodeTable.set n e }) ⟨id, fun h m => ?_⟩
      (keepsTableLaws_routeCheck _)
    by_cases hm : n = m
    · subst hm
      simp [he, hn]
    · have hv : n.val ≠ m.val := fun k => hm (Fin.ext k)
      simpa [hv] using h m

/-- SELF moves with the node number (R126). -/
theorem keepsTableLaws_moveNode (n : Node) (s : State) : KeepsTableLaws s (moveNode n s) := by
  unfold moveNode
  split
  · exact .refl s
  · refine KeepsTableLaws.trans
      (t := { s with node := n, nodeTable := (s.nodeTable.set s.node .unreachable).set n .self })
      ⟨id, fun h m => ?_⟩ (keepsTableLaws_routeCheck _)
    by_cases hm : n = m
    · subst hm
      simp
    · have hv : n.val ≠ m.val := fun k => hm (Fin.ext k)
      by_cases ho : s.node = m
      · subst ho
        simp [hv, Ne.symm hm]
      · have hov : s.node.val ≠ m.val := fun k => ho (Fin.ext k)
        simpa [hv, hov, Ne.symm hm, Ne.symm ho] using h m

/-- A Staging bank in which no valid entry fails validation becomes the Active bank (R60, R62). -/
theorem keepsTableLaws_commitTable (s : State) : KeepsTableLaws s (commitTable s).state := by
  cases hf : firstFailing s.windows.staging with
  | some i => rw [commitTable_invalid hf]; exact .refl s
  | none =>
    cases hc : firstConflict s.windows s.locks with
    | some i => rw [commitTable_conflict hf hc]; exact .refl s
    | none =>
      rw [commitTable_copies hf hc]
      refine ⟨fun _ i hv => ?_, id⟩
      have hp := firstFailing_eq_none.1 hf i
      rw [failsValidation_iff, not_and_not_right] at hp
      exact hp hv

theorem keepsTableLaws_cold (s : State) (n : Node) (m : Option Port) : KeepsTableLaws s (State.cold n m) := by
  obtain ⟨_, rfl, hw, hn, -⟩ := lawsHoldAfterReset.1 n m
  exact ⟨fun _ => hw, fun _ => hn⟩

/-! ### Link loss, resets and deferred actions -/

theorem keepsTableLaws_enterTraining (p : Port) (s : State) : KeepsTableLaws s (enterTraining p s) :=
  keepsTableLaws_of_same (by simp) (by simp) (by simp)

theorem keepsTableLaws_loseLink (x : Port) (cause : LossCause) (s : State) : KeepsTableLaws s (loseLink x cause s) := by
  obtain ⟨_, _, _, _, _, _, _, h⟩ := loseLink_blocks x cause s
  rw [h]
  exact keepsTableLaws_of_same

theorem keepsTableLaws_warmReset (s : State) : KeepsTableLaws s (warmReset s) := by
  obtain ⟨ports, -, h⟩ := warmReset_eq s
  rw [h]
  refine KeepsTableLaws.trans ?_ (keepsTableLaws_raiseFault _ _)
  exact keepsTableLaws_of_same (by rw [withdrawNote_windows]; rfl) (by rw [withdrawNote_node]; rfl)
    (by rw [withdrawNote_nodeTable]; rfl)

theorem keepsTableLaws_enablePort (q : Port) (s : State) : KeepsTableLaws s (enablePort q s) := by
  unfold enablePort
  split
  · exact keepsTableLaws_enterTraining q s
  · exact keepsTableLaws_enterTraining q s
  · exact .refl s

theorem keepsTableLaws_disablePort (q : Port) (s : State) : KeepsTableLaws s (disablePort q s).1 := by
  unfold disablePort
  split
  · exact .refl s
  · exact keepsTableLaws_loseLink q _ s
  · exact keepsTableLaws_of_same

theorem keepsTableLaws_restartPort (q : Port) (s : State) : KeepsTableLaws s (restartPort q s).1 := by
  unfold restartPort
  split
  · exact keepsTableLaws_enterTraining q s
  · exact keepsTableLaws_loseLink q _ s
  · exact .refl s

theorem keepsTableLaws_takeActions (work : List PendingAction) (s : State) : KeepsTableLaws s (takeActions work s) :=
  takeActions_keeps (KeepsTableLaws s) work s (.refl s) (fun u hu => hu.trans (keepsTableLaws_warmReset u))
    (fun n u hu => hu.trans (keepsTableLaws_moveNode n u)) (fun q u hu => hu.trans (keepsTableLaws_disablePort q u))
    (fun q u hu => hu.trans (keepsTableLaws_restartPort q u))

theorem keepsTableLaws_linkLoss (x : Port) (cause : LossCause) (s : State) : KeepsTableLaws s (linkLoss x cause s) :=
  (keepsTableLaws_loseLink x cause s).trans (keepsTableLaws_takeActions _ _)

theorem keepsTableLaws_releaseAction (x : Port) (s : State) : KeepsTableLaws s (releaseAction x s) := by
  unfold releaseAction
  split
  · exact .refl s
  · exact (keepsTableLaws_takeActions _ _).after

/-! ### The links -/

theorem keepsTableLaws_acceptHello (p : Port) (node : Node) (offers : LanePair) (f : Bool) (s : State) :
    KeepsTableLaws s (acceptHello p node offers f s) := by
  cases h : (s.port p).seen || f with
  | false => rw [acceptHello_unseen h]; exact keepsTableLaws_of_same
  | true => rw [acceptHello_seen h]; exact (keepsTableLaws_routeCheck _).after

theorem keepsTableLaws_firstOfTraining (p : Port) (n : Node) (a b : Byte) (f : Bool) (s : State) :
    KeepsTableLaws s (firstOfTraining p n a b f s) := by
  unfold firstOfTraining
  split
  · exact keepsTableLaws_acceptHello p n _ f s
  · exact .refl s

theorem keepsTableLaws_receiveRequest (p : Port) (c : Credits) (r : Request) (s : State) :
    KeepsTableLaws s (receiveRequest p c r s) := by
  unfold receiveRequest
  dsimp only
  split
  · exact keepsTableLaws_of_same
  · exact (keepsTableLaws_linkLoss p _ _).after

theorem keepsTableLaws_receiveReply (p : Port) (c : Credits) (r : Reply) (s : State) :
    KeepsTableLaws s (receiveReply p c r s) := by
  unfold receiveReply
  dsimp only
  split
  · exact keepsTableLaws_of_same
  · exact (keepsTableLaws_linkLoss p _ _).after

theorem keepsTableLaws_noteLeft (p : Port) (s : State) : KeepsTableLaws s (noteLeft p s) := by
  unfold noteLeft
  split
  · exact .refl s
  · split
    · exact (keepsTableLaws_routeCheck _).after
    · exact .refl s

theorem keepsTableLaws_nextHello (p : Port) (s : State) : KeepsTableLaws s (nextHello p s) := keepsTableLaws_of_same

theorem keepsTableLaws_parcelGone (p : Port) (t : Transmission) (s : State) : KeepsTableLaws s (parcelGone p t s) := by
  unfold parcelGone
  dsimp only
  refine KeepsTableLaws.trans (keepsTableLaws_noteLeft p (s.modifyPort p fun r => { r with tx := none })).after
    (KeepsTableLaws.trans ?_ (keepsTableLaws_nextHello p _))
  split
  · exact keepsTableLaws_releaseAction p _
  · exact .refl _

theorem keepsTableLaws_discardReply (p : Port) (k : FaultKind) (r : Reply) (s : State) :
    KeepsTableLaws s (discardReply p k r s) :=
  (keepsTableLaws_raiseFault _ s).trans (keepsTableLaws_popReply p _)

theorem keepsTableLaws_judgeReply (p : Port) (r : Reply) (i : Fin 64) (s : State) :
    KeepsTableLaws s (judgeReply p r i s) := by
  unfold judgeReply
  split
  · exact keepsTableLaws_discardReply p _ r s
  · split
    · split
      · unfold relayOrHold
        split
        · exact (sameSetup_relayReply p r i _ s).keepsTableLaws
        · exact keepsTableLaws_setEntry i _ s
      · exact .refl s
      · exact (keepsTableLaws_setEntry i none s).trans (keepsTableLaws_popReply p _)
      · exact keepsTableLaws_discardReply p _ r s
      · exact keepsTableLaws_discardReply p _ r s
    · exact keepsTableLaws_discardReply p _ r s

/-! ### The timers -/

theorem keepsTableLaws_endAttempt (p : Port) (s : State) : KeepsTableLaws s (endAttempt p s) := by
  unfold endAttempt
  split
  · dsimp only
    split
    · exact keepsTableLaws_of_same
    · unfold haltPort loseManager
      refine KeepsTableLaws.trans
        (keepsTableLaws_raiseFault { kind := .linkHalted, port := some p } (enterHalted p (countAttempt p s))).after ?_
      split
      · exact (keepsTableLaws_raiseFault _ _).after
      · exact .refl _
  · exact keepsTableLaws_of_same

theorem keepsTableLaws_placeSynth (i : Fin 64) (e : TrackEntry) (st : OwedStatus) (s : State) :
    KeepsTableLaws s (placeSynth i e st s) := by
  unfold placeSynth
  split
  · split
    · exact (keepsTableLaws_toTombstone i e _).after
    · exact keepsTableLaws_toTombstone i e s
  · exact keepsTableLaws_setEntry i _ s

theorem keepsTableLaws_breakRecord (cause : BreakCause) (r : Fin 4) (s : State) :
    KeepsTableLaws s (breakRecord cause r s) := by
  unfold breakRecord
  split
  · exact .refl s
  · exact ((keepsTableLaws_raiseFault _ (setLock r none s)).trans keepsTableLaws_of_same).after

/-! ### Directives -/

theorem keepsTableLaws_setFence (p : Port) (s : State) : KeepsTableLaws s (setFence p s) := by
  unfold setFence
  split
  · exact .refl s
  · obtain ⟨_, _, _, _, _, h⟩ :=
      (locksBroken_breakHeldBy p .fence (s.modifyPort p fun r => { r with fenced := true })).frame
    rw [h]
    exact keepsTableLaws_of_same

theorem keepsTableLaws_putAlertNode (v : Option Node) (s : State) : KeepsTableLaws s (putAlertNode v s) := by
  unfold putAlertNode
  dsimp only
  split
  · exact keepsTableLaws_of_same
  · split
    · exact keepsTableLaws_of_same
    · exact (keepsTableLaws_routeCheck _).after

theorem keepsTableLaws_armAlert (s : State) : KeepsTableLaws s (armAlert s) := by
  unfold armAlert
  dsimp only
  split
  · exact keepsTableLaws_of_same
  · exact (sameSetup_raiseAlert _).keepsTableLaws.after

/-- Every effect that a command may have keeps the laws, where the node number is the one that its value checks read. -/
theorem DirectiveEffect.keepsTableLaws {s u : State} {effect : State → DirResult} (h : DirectiveEffect s effect)
    (hn : u.node = s.node) : KeepsTableLaws u (effect u).state := by
  cases h with
  | read words => exact .refl u
  | deferred k => exact .refl u
  | enabled p => exact keepsTableLaws_enablePort p u
  | fenced p => exact keepsTableLaws_setFence p u
  | unfenced p => exact keepsTableLaws_of_same
  | configured f => exact keepsTableLaws_of_same
  | staged f => exact keepsTableLaws_of_same
  | committed => exact keepsTableLaws_commitTable u
  | lockBroken r => exact keepsTableLaws_breakRecord .directive r u
  | nodeWritten n e hne he => exact keepsTableLaws_writeNode (by rwa [hn]) he
  | managerSet p _ => exact keepsTableLaws_of_same
  | faultsPopped n => exact keepsTableLaws_of_same
  | policySet p => exact keepsTableLaws_of_same
  | alertNodeSet v => exact keepsTableLaws_putAlertNode v u
  | alertArmed => exact keepsTableLaws_armAlert u

theorem keepsTableLaws_runCommand (c : Command) (d : Directive) (s : State) :
    KeepsTableLaws s (runCommand c c.checks d s).state := by
  unfold runCommand
  split
  · exact .refl s
  · split
    · exact .refl s
    · split
      · exact .refl s
      · next effect he =>
        have claim : (claimManager c d s).node = s.node ∧ KeepsTableLaws s (claimManager c d s) := by
          unfold claimManager
          split
          · exact ⟨rfl, .refl s⟩
          · exact ⟨rfl, keepsTableLaws_of_same⟩
        exact claim.2.trans ((c.checks_give _ _ _ he).keepsTableLaws claim.1)

theorem keepsTableLaws_deliver (d : Directive) (r : DirResult) : KeepsTableLaws r.state (deliver d r) := by
  unfold deliver
  split
  · exact keepsTableLaws_of_same
  · exact (keepsTableLaws_takeActions _ _).after

/-! ### Every command -/

theorem EventEffect.keepsTableLaws {s t : State} (h : EventEffect s t) : KeepsTableLaws s t := by
  cases h with
  | helloDue p _ _ => exact keepsTableLaws_of_same
  | attemptEnded p _ _ => exact keepsTableLaws_endAttempt p s
  | helloAccepted p n a b f _ _ => exact keepsTableLaws_acceptHello p n _ f s
  | peerRestarted p n a b _ => exact (keepsTableLaws_linkLoss p _ s).trans (keepsTableLaws_firstOfTraining p n a b _ _)
  | damaged p _ => exact keepsTableLaws_linkLoss p _ s
  | requestReceived p c r _ => exact keepsTableLaws_receiveRequest p c r s
  | replyReceived p c r _ => exact keepsTableLaws_receiveReply p c r s
  | creditReceived p c _ => exact keepsTableLaws_of_same
  | unknownKindReceived p _ => exact keepsTableLaws_raiseFault _ s
  | parcelLeft p t _ => exact keepsTableLaws_parcelGone p t s
  | replyStray p r rest _ _ => exact keepsTableLaws_discardReply p _ r s
  | replyJudged p r rest i _ _ => exact keepsTableLaws_judgeReply p r i s
  | deadline i e _ _ _ => exact (keepsTableLaws_raiseFault _ s).trans (keepsTableLaws_placeSynth i e _ _)
  | orphanDeadline i e _ _ _ => exact keepsTableLaws_toTombstone i e s
  | tombstoneEnded i e _ _ _ => exact keepsTableLaws_setEntry i none s
  | holdEnded r l _ _ => exact keepsTableLaws_breakRecord _ r s
  | executed c d _ _ => exact (keepsTableLaws_runCommand c d s).trans (keepsTableLaws_deliver d _)
  | executedUnknown d _ _ => exact keepsTableLaws_deliver d (reply .badCommand [] s)

theorem CommandEffect.keepsTableLaws {s t : State} (h : CommandEffect s t) : KeepsTableLaws s t := by
  cases h with
  | none => exact .refl s
  | resetAsserted _ => exact keepsTableLaws_of_same
  | resetReleased n m _ => exact (keepsTableLaws_cold s n m).trans keepsTableLaws_of_same
  | ticked _ => exact keepsTableLaws_of_same
  | event u _ hu => exact hu.keepsTableLaws.trans (keepsTableLaws_settle u)

/-- Settles O51: whatever the step's command comes to keeps both laws. -/
theorem everyStepKeepsTheTableLaws : Obligations.EveryStepKeepsTheTableLaws := by
  intro s t h
  obtain ⟨queue, heffect⟩ := step_effect h
  exact heffect.keepsTableLaws.after

end Sys2Proof.Machine
end

end

section
-- Theorems are checked one after another: a thread for each takes a stack of its own, and there is no room for them all.
set_option Elab.async false

section
/-! SUPPORT. The measure of the coming to rest: what each internal action does to the work that is left, and that every action
that may be taken lowers it. -/

namespace Sys2Proof.Machine

open Sys2Proof

/-! ### The work of one port, and of the router -/

/-- The work that the state of a head stands for. -/
def headWork : HeadState → Nat
  | .unexamined => 14
  | .offered _ => 1
  | _ => 0

/-- The work that an examination of the head does away with: its state, and a due re-examination. -/
def examWork (r : PortRec) : Nat := headWork r.head + if r.recheck then 2 else 0

/-- The work of the Management Unit. -/
def mgmtWork : MgmtState → Nat
  | .replyHeld _ _ => 1
  | _ => 0

theorem portWork_eq (r : PortRec) :
    portWork r = 27 * r.reqLane.length + examWork r + if r.tx.isNone then 1 else 0 := by
  unfold portWork examWork headWork
  cases r.head <;> simp only [] <;> omega

theorem workLeft_eq (s : State) : workLeft s = (∑ p, portWork (s.port p)) + mgmtWork s.mgmt := by
  unfold workLeft mgmtWork
  rw [Fin.sum_univ_def]
  congr 1

/-- The work depends on the port records and the Management Unit alone. -/
theorem workLeft_congr {s t : State} (hp : ∀ p, t.port p = s.port p) (hm : t.mgmt = s.mgmt) :
    workLeft t = workLeft s := by
  simp only [workLeft_eq, hp, hm]

/-- The work after a change at one port: that port's old work is exchanged for its new one. -/
theorem workLeft_of_port {s t : State} (x : Port) (hp : ∀ p, p ≠ x → t.port p = s.port p) (hm : t.mgmt = s.mgmt) :
    workLeft t + portWork (s.port x) = workLeft s + portWork (t.port x) := by
  have others : ∑ p ∈ Finset.univ.erase x, portWork (t.port p) = ∑ p ∈ Finset.univ.erase x, portWork (s.port p) :=
    Finset.sum_congr rfl fun p h => by rw [hp p (Finset.ne_of_mem_erase h)]
  have ht := Finset.add_sum_erase Finset.univ (fun p => portWork (t.port p)) (Finset.mem_univ x)
  have hs := Finset.add_sum_erase Finset.univ (fun p => portWork (s.port p)) (Finset.mem_univ x)
  rw [workLeft_eq, workLeft_eq, hm]
  omega

theorem workLeft_modifyPort (s : State) (p : Port) (f : PortRec → PortRec) :
    workLeft (s.modifyPort p f) + portWork (s.port p) = workLeft s + portWork (f (s.port p)) := by
  rw [workLeft_of_port p (fun q hq => s.port_modifyPort_of_ne f hq) rfl, s.port_modifyPort_self]

/-- A change of a port record that keeps its work keeps the work of the router. -/
theorem workLeft_modifyPort_of_eq {s : State} {p : Port} {f : PortRec → PortRec}
    (h : portWork (f (s.port p)) = portWork (s.port p)) : workLeft (s.modifyPort p f) = workLeft s := by
  have := workLeft_modifyPort s p f
  omega

/-- The Management Unit gives up the reply that it holds. -/
theorem workLeft_idle (s : State) : workLeft { s with mgmt := .idle } + mgmtWork s.mgmt = workLeft s := by
  simp [workLeft_eq, mgmtWork]

/-! ### Shared operations -/

theorem workLeft_freeUsed (s : State) (k : Nat) : workLeft { s with freeUsed := k } = workLeft s :=
  workLeft_congr (fun _ => rfl) rfl

@[simp] theorem workLeft_raiseFault (r : FaultReport) (s : State) : workLeft (raiseFault r s) = workLeft s :=
  workLeft_congr (raiseFault_port r s) (by simp)

@[simp] theorem workLeft_setEntry (i : Fin 64) (e : Option TrackEntry) (s : State) :
    workLeft (setEntry i e s) = workLeft s := workLeft_congr (fun _ => rfl) rfl

@[simp] theorem workLeft_setLock (r : Fin 4) (l : Option Lock) (s : State) : workLeft (setLock r l s) = workLeft s :=
  workLeft_congr (fun _ => rfl) rfl

@[simp] theorem workLeft_admitClaimant (p : Port) (c : Fin 8) (q : QueuedReply) (s : State) :
    workLeft (admitClaimant p c q s) = workLeft s := workLeft_modifyPort_of_eq rfl

@[simp] theorem workLeft_enqueueReply (p : Port) (q : QueuedReply) (s : State) :
    workLeft (enqueueReply p q s) = workLeft s := workLeft_modifyPort_of_eq rfl

@[simp] theorem workLeft_popReply (p : Port) (s : State) : workLeft (popReply p s) = workLeft s :=
  workLeft_modifyPort_of_eq (by cases (s.port p).repLane <;> rfl)

@[simp] theorem workLeft_countFencedDrop (x : Port) (s : State) : workLeft (countFencedDrop x s) = workLeft s :=
  workLeft_modifyPort_of_eq rfl

theorem headWork_headAfter_le (lane : List Request) : headWork (headAfter lane) ≤ 14 := by
  cases lane <;> simp [headAfter, headWork]

/-- A head that leaves its lane takes 27 of the work with it, and the next one brings at most 14. -/
theorem workLeft_popHead {x : Port} {s : State} (hl : (s.port x).reqLane ≠ []) :
    workLeft (popHead x s) + examWork (s.port x) + 13 ≤ workLeft s := by
  obtain ⟨h, rest, hl⟩ := List.exists_cons_of_ne_nil hl
  have hw := workLeft_of_port (t := popHead x s) x (fun p hp => popHead_port_of_ne hp s) rfl
  have hh := headWork_headAfter_le rest
  rw [popHead_port_cons hl, portWork_eq, portWork_eq, hl] at hw
  simp only [examWork, List.length_cons, Bool.false_eq_true, if_false] at hw ⊢
  omega

theorem workLeft_popHead_le (x : Port) (s : State) : workLeft (popHead x s) ≤ workLeft s := by
  by_cases hl : (s.port x).reqLane = []
  · have hw := workLeft_of_port (t := popHead x s) x (fun p hp => popHead_port_of_ne hp s) rfl
    rw [popHead_port_nil hl, portWork_eq, portWork_eq] at hw
    simp only [examWork, headWork, Bool.false_eq_true, if_false] at hw
    omega
  · have := workLeft_popHead hl
    omega

theorem workLeft_setHead (x : Port) (st : HeadState) (s : State) :
    workLeft (setHead x st s) + examWork (s.port x) = workLeft s + headWork st := by
  have hw := workLeft_modifyPort s x fun r => { r with head := st, recheck := false }
  rw [portWork_eq, portWork_eq] at hw
  simp only [examWork, Bool.false_eq_true, if_false] at hw ⊢
  unfold setHead
  omega

/-- A marking makes at most one re-examination due at each port. -/
theorem workLeft_markHeads_le (which : Port → PortRec → Bool) (s : State) :
    workLeft (markHeads which s) ≤ workLeft s + 12 := by
  have mark (p : Port) : portWork ((markHeads which s).port p) ≤ portWork (s.port p) + 2 := by
    rw [markHeads_port]
    split
    · simp only [portWork_eq, examWork, if_true]
      omega
    · omega
  have hsum := Finset.sum_le_sum fun p (_ : p ∈ Finset.univ) => mark p
  rw [Finset.sum_add_distrib] at hsum
  simp only [workLeft_eq, markHeads_mgmt]
  simp at hsum
  omega

/-! ### Examinations -/

/-- An answered head has no work of its own left, whether its answer is admitted or waits (R75). -/
theorem workLeft_offerAnswer {x : Port} (res : Option Resolution) (a : Reply) {s : State}
    (hl : (s.port x).reqLane ≠ []) : workLeft (offerAnswer x res a s) + examWork (s.port x) ≤ workLeft s := by
  unfold offerAnswer
  split
  · have := workLeft_popHead (x := x) (s := admitClaimant x dispatchClaimant ⟨a, false⟩ s) (by simpa using hl)
    simp only [admitClaimant_port_self, workLeft_admitClaimant, examWork] at this ⊢
    omega
  · exact (workLeft_setHead x (.answered res a) s).le

theorem workLeft_dropWithFault {x : Port} (r : FaultReport) {s : State} (hl : (s.port x).reqLane ≠ []) :
    workLeft (dropWithFault x r s) + examWork (s.port x) ≤ workLeft s := by
  have := workLeft_popHead (x := x) (s := raiseFault r s) (by simpa using hl)
  simp only [workLeft_raiseFault, raiseFault_port] at this
  unfold dropWithFault
  omega

theorem workLeft_stopHead {x : Port} (res : Option Resolution) (h : Request) (st : Status) (r : FaultReport) {s : State}
    (hl : (s.port x).reqLane ≠ []) : workLeft (stopHead x res h st r s) + examWork (s.port x) ≤ workLeft s := by
  unfold stopHead
  split
  · exact workLeft_dropWithFault r hl
  · exact workLeft_offerAnswer res _ hl

theorem workLeft_stopByFence {x : Port} (res : Option Resolution) (h : Request) {s : State}
    (hl : (s.port x).reqLane ≠ []) : workLeft (stopByFence x res h s) + examWork (s.port x) ≤ workLeft s := by
  unfold stopByFence
  split
  · have := workLeft_popHead (x := x) (s := countFencedDrop x s) (by simpa [countFencedDrop] using hl)
    rw [workLeft_countFencedDrop] at this
    simp only [countFencedDrop, State.port_modifyPort_self, examWork] at this ⊢
    omega
  · exact workLeft_offerAnswer res _ hl

theorem workLeft_stopMalformed {x : Port} (h : Request) (m : Malformation) {s : State} (hl : (s.port x).reqLane ≠ []) :
    workLeft (stopMalformed x h m s) + examWork (s.port x) ≤ workLeft s := by
  unfold stopMalformed
  split
  · exact workLeft_dropWithFault _ hl
  · exact workLeft_offerAnswer none _ hl

/-- A head that is offered, or waits, has at most the grant before it. -/
theorem workLeft_lockOrOffer (x : Port) (res : Resolution) (s : State) :
    workLeft (lockOrOffer x res s) + examWork (s.port x) ≤ workLeft s + 1 := by
  unfold lockOrOffer
  split
  · exact (workLeft_setHead x (.lockWait res) s).le.trans (by simp [headWork])
  · exact (workLeft_setHead x (.offered res) s).le

theorem workLeft_outputChecks {x : Port} (h : Request) (res : Resolution) {s : State} (hl : (s.port x).reqLane ≠ []) :
    workLeft (outputChecks x h res s) + examWork (s.port x) ≤ workLeft s + 1 := by
  unfold outputChecks
  split
  · exact workLeft_lockOrOffer x res s
  · split
    · exact workLeft_lockOrOffer x res s
    · exact (workLeft_stopHead _ h _ _ hl).trans (Nat.le_succ _)

/-- The decision on a CLAIM or RELEASE may mark the waiting heads of all ports, which the examined head is not one of. -/
theorem workLeft_answerPathLock {x : Port} (h : Request) (i : Fin 48) (d : Port) (out : Addr) {s : State}
    (hl : (s.port x).reqLane ≠ []) (hh : (s.port x).head.waiting = false) :
    workLeft (answerPathLock x h i d out s) + examWork (s.port x) ≤ workLeft s + 12 := by
  have answered (t : State) (res : Option Resolution) (a : Reply) (ht : t.port x = s.port x)
      (hw : workLeft t ≤ workLeft s + 12) :
      workLeft (offerAnswer x res a t) + examWork (s.port x) ≤ workLeft s + 12 := by
    rw [← ht] at hl ⊢
    exact (workLeft_offerAnswer res a hl).trans hw
  have kept (t : State) (ht : workLeft t = workLeft s) : workLeft t ≤ workLeft s + 12 := ht ▸ Nat.le_add_right _ _
  have marked (r : Fin 4) (l : Option Lock) (res : Option Resolution) (a : Reply) :
      workLeft (offerAnswer x res a (markForLocks (setLock r l s))) + examWork (s.port x) ≤ workLeft s + 12 :=
    answered _ res a (by simp [markForLocks, markHeads_port, hh])
      ((workLeft_markHeads_le _ _).trans (by rw [workLeft_setLock]))
  unfold answerPathLock refuse
  dsimp only
  split
  · obtain ⟨r, l, e | e | e⟩ := decideClaim_state x i s <;> rw [e]
    · exact answered s _ _ rfl (kept s rfl)
    · exact answered (setLock r l s) _ _ rfl (kept _ (workLeft_setLock r l s))
    · exact marked r l _ _
  · obtain ⟨r, e | e⟩ := decideRelease_state x i s <;> rw [e]
    · exact answered s _ _ rfl (kept s rfl)
    · exact marked r none _ _

theorem workLeft_resolveAddress {x : Port} (h : Request) {s : State} (hl : (s.port x).reqLane ≠ [])
    (hh : (s.port x).head.waiting = false) :
    workLeft (resolveAddress x h s) + examWork (s.port x) ≤ workLeft s + 12 := by
  unfold resolveAddress
  dsimp only
  split
  · exact (workLeft_stopHead _ h _ _ hl).trans (Nat.le_add_right _ _)
  · exact (workLeft_stopHead _ h _ _ hl).trans (Nat.le_add_right _ _)
  · split
    · exact workLeft_answerPathLock h _ _ _ hl hh
    · exact (workLeft_outputChecks h _ hl).trans (by omega)

theorem workLeft_stopByHopLimit {x : Port} (h : Request) {s : State} (hl : (s.port x).reqLane ≠ []) :
    workLeft (stopByHopLimit x h s) + examWork (s.port x) ≤ workLeft s := by
  unfold stopByHopLimit
  split
  · exact workLeft_dropWithFault _ hl
  · have := workLeft_offerAnswer (x := x) (s := raiseFault (hopReport x h) s)
      (some ⟨.nodeRefused .hopLimit, s.windows.generation⟩) ⟨h.tag, Status.hopLimit.code, []⟩ (by simpa using hl)
    rwa [raiseFault_port, workLeft_raiseFault] at this

theorem workLeft_resolveForward {x : Port} (h : Request) {s : State} (hl : (s.port x).reqLane ≠ []) :
    workLeft (resolveForward x h s) + examWork (s.port x) ≤ workLeft s + 1 := by
  unfold resolveForward
  dsimp only
  split
  · exact workLeft_outputChecks h _ hl
  · exact (workLeft_stopHead _ h _ _ hl).trans (Nat.le_succ _)

theorem workLeft_resolveNode {x : Port} (h : Request) {s : State} (hl : (s.port x).reqLane ≠ []) :
    workLeft (resolveNode x h s) + examWork (s.port x) ≤ workLeft s + 1 := by
  unfold resolveNode
  split
  · split
    · exact (workLeft_dropWithFault _ hl).trans (Nat.le_succ _)
    · exact (workLeft_setHead x _ s).le
  · split
    · exact (workLeft_stopByHopLimit h hl).trans (Nat.le_succ _)
    · exact workLeft_resolveForward h hl

/-- A first examination takes 14 of the work, and what it marks brings at most 12 (R65, R66). -/
theorem workLeft_examineHead_lt {x : Port} {s : State} (hh : (s.port x).head = .unexamined) :
    workLeft (examineHead x s) < workLeft s := by
  have hw : 14 ≤ examWork (s.port x) := by simp [examWork, hh, headWork]
  suffices workLeft (examineHead x s) + examWork (s.port x) ≤ workLeft s + 12 by omega
  unfold examineHead
  split
  · exact (workLeft_setHead x .empty s).le.trans (Nat.le_add_right _ _)
  · next h rest hl =>
    have hl : (s.port x).reqLane ≠ [] := by simp [hl]
    split
    · exact (workLeft_stopByFence none h hl).trans (Nat.le_add_right _ _)
    · split
      · exact (workLeft_stopMalformed h _ hl).trans (Nat.le_add_right _ _)
      · split
        · exact (workLeft_resolveNode h hl).trans (by omega)
        · exact workLeft_resolveAddress h hl (by simp [hh, HeadState.waiting])

theorem workLeft_recheckHeld {x : Port} (h : Request) (res : Resolution) {s : State} (hl : (s.port x).reqLane ≠ []) :
    workLeft (recheckHeld x h res s) + examWork (s.port x) ≤ workLeft s + 1 := by
  unfold recheckHeld
  split
  · exact (workLeft_stopByFence _ h hl).trans (Nat.le_succ _)
  · exact workLeft_outputChecks h res hl

/-- A later examination takes the 2 of its mark, and leaves at most the 1 of an offered head (R66). -/
theorem workLeft_reexamineHead_lt {x : Port} {s : State} (hr : (s.port x).recheck = true) :
    workLeft (reexamineHead x s) < workLeft s := by
  have hw : examWork (s.port x) = headWork (s.port x).head + 2 := by simp [examWork, hr]
  unfold reexamineHead
  dsimp only
  split
  · next h _ res hl _ =>
    have := workLeft_recheckHeld (x := x) (s := s) h res (by simp [hl])
    omega
  · next h _ res hl _ =>
    have := workLeft_recheckHeld (x := x) (s := s) h res (by simp [hl])
    omega
  · have := workLeft_setHead x (s.port x).head s
    omega

/-! ### Placements and choices -/

/-- The Management Unit's reply is placed, or handed to a claimant's slot. -/
theorem workLeft_admitHeld (o : Port) (q : QueuedReply) (s : State) :
    workLeft { admitClaimant o mgmtClaimant q s with mgmt := .idle } + mgmtWork s.mgmt = workLeft s := by
  have := workLeft_idle (admitClaimant o mgmtClaimant q s)
  rwa [workLeft_admitClaimant] at this

theorem workLeft_placeReply_lt {s : State} (h : replyPlaceable s = true) : workLeft (placeReply s) < workLeft s := by
  obtain ⟨o, q, hm, -⟩ := (replyPlaceable_iff s).1 h
  have := workLeft_admitHeld o q s
  simp only [placeReply, hm, mgmtWork] at this ⊢
  omega

/-- A freed slot makes no work, whoever is given it. -/
theorem workLeft_giveSlot_le (x : Port) (s : State) : workLeft (giveSlot x s) ≤ workLeft s := by
  obtain ⟨i, e, st, -, -, -, hg⟩ | ⟨p, r, i, e, -, -, hg⟩ | ⟨res, a, -, hg⟩ | ⟨q, -, hg⟩ | hg := giveSlot_cases x s <;>
    rw [hg]
  · simp [toTombstone]
  · simp [relayReply]
  · exact (workLeft_popHead_le x _).trans (workLeft_admitClaimant _ _ _ s).le
  · have := workLeft_admitHeld x q s
    omega

/-- A free transmitter that begins a parcel takes 1 of the work. -/
theorem workLeft_of_begun {s t : State} {out : Port} (hs : (s.port out).tx = none) (ht : (t.port out).tx.isNone = false)
    (hl : (t.port out).reqLane = (s.port out).reqLane) (hh : (t.port out).head = (s.port out).head)
    (hr : (t.port out).recheck = (s.port out).recheck) (hp : ∀ p, p ≠ out → t.port p = s.port p)
    (hm : t.mgmt = s.mgmt) : workLeft t < workLeft s := by
  have := workLeft_of_port out hp hm
  simp only [portWork_eq, examWork, hs, ht, hl, hh, hr, Option.isNone_none, if_true, Bool.false_eq_true, if_false] at this
  omega

theorem workLeft_sendReply_lt {out : Port} {s : State} (ht : (s.port out).tx = none)
    (hr : replyReady (s.port out) = true) : workLeft (sendReply out s) < workLeft s := by
  obtain ⟨q, rest, hq⟩ := List.exists_cons_of_ne_nil ((replyReady_iff _).1 hr).1
  have hself := replyBegun_port_self out q rest s
  rw [sendReply_eq hq]
  refine (workLeft_giveSlot_le out _).trans_lt (workLeft_of_begun ht ?_ ?_ ?_ ?_ (fun p => replyBegun_port_of_ne q rest s) rfl)
  all_goals simp [hself, PortRec.replySent]

theorem workLeft_beginGrant_lt {out : Port} (i : Fin 7) (r : Request) {s : State} (ht : (s.port out).tx = none) :
    workLeft (beginGrant out i r s) < workLeft s := by
  have hself := beginGrant_port_self out i r s
  refine workLeft_of_begun ht ?_ ?_ ?_ ?_ (fun p => beginGrant_port_of_ne i r s) rfl
  all_goals simp [hself]

theorem workLeft_grantHead_lt {out : Port} (x : Port) (i : Fin 7) (r : Request) {s : State}
    (ht : (s.port out).tx = none) : workLeft (grantHead out x i r s) < workLeft s :=
  (workLeft_popHead_le x _).trans_lt (workLeft_beginGrant_lt i r ht)

theorem workLeft_sendCredit_lt {out : Port} {s : State} (ht : (s.port out).tx = none) :
    workLeft (sendCredit out s) < workLeft s := by
  have hself : (sendCredit out s).port out =
      { s.port out with tx := some ⟨.credit (owedCredits (s.port out)), false⟩, owed := ⟨0, 0⟩ } :=
    State.port_modifyPort_self s out _
  refine workLeft_of_begun ht ?_ ?_ ?_ ?_ (fun p => State.port_modifyPort_of_ne s _) rfl
  all_goals simp [hself]

/-- While an entry is FREE and the origin is under its quota, a head is given an entry or its tag is in use (R89). -/
theorem allocate_ne_noEntry {x : Port} {s : State} (h : trackingRoom s x = true) (tag : Tag) :
    allocate s x tag ≠ .noEntry := by
  obtain ⟨hf, hq⟩ : (lowestFree s).isSome = true ∧ originCount s x < s.settings.quota[x] := by
    simpa [trackingRoom] using h
  obtain ⟨j, hj⟩ := Option.isSome_iff_exists.1 hf
  unfold allocate
  split
  · simp
  · rw [hj]
    simpa using hq

/-- Whatever comes of asking for an eligible candidate takes some of the work: the grant the free transmitter, the refusal
the offered head (R79, R80). -/
theorem workLeft_tryInput_lt {out : Port} {i : Fin 7} {s : State} (ht : (s.port out).tx = none)
    (he : eligible s out i = true) : workLeft (tryInput out i s).state < workLeft s := by
  unfold eligible at he
  unfold tryInput
  split
  · next hp =>
    simp only [hp] at he
    obtain ⟨q, hq⟩ := Option.isSome_iff_exists.1 he
    simp only [hq]
    exact (workLeft_beginGrant_lt (s := { s with alert := { s.alert with queued := some { q with sending := true } } })
      6 q.note ht).trans_eq (workLeft_congr (fun _ => rfl) rfl)
  · next x hp =>
    simp only [hp] at he
    split
    · next ho => simp [ho] at he
    · next h res ho =>
      simp only [ho] at he
      split
      · exact workLeft_grantHead_lt x i _ ht
      · next k hk =>
        split
        · next j _ =>
          have hg := workLeft_grantHead_lt x i (outboundRequest h res.route (BitVec.ofNat 8 j.val))
            (s := setEntry j (some (newEntry s x out h res k)) s) ht
          exact hg.trans_eq (workLeft_setEntry _ _ _)
        · have hw := workLeft_offerAnswer (some res) ⟨h.tag, Status.tagInUse.code, []⟩ (Examinable.of_offeredAt ho).1
          simp only [examWork, (offeredAt_eq_some.1 ho).2.1, headWork] at hw
          simp only [GrantResult.state, refuse]
          omega
        · next hn =>
          have hposted : h.kind.posted = false := by
            cases hkind : h.kind <;> simp [hkind, trackKind] at hk <;> rfl
          simp only [hposted, Bool.false_or] at he
          exact absurd hn (allocate_ne_noEntry he h.tag)

/-- A candidate that is passed over leaves every transmitter as it is. -/
theorem tryInput_passed_transmitter {out : Port} {i : Fin 7} {s t : State} (h : tryInput out i s = .passed t) (p : Port) :
    transmitterReady (t.port p) = transmitterReady (s.port p) := by
  obtain rfl | ⟨x, q, res, -, rfl⟩ := tryInput_passed h
  · rfl
  · exact offerAnswer_transmitter x p _ _ s

/-- Going through candidates makes no work, and takes some when one of them is eligible (R80). -/
theorem workLeft_tryInputs {out : Port} (is : List (Fin 7)) {s : State} (ht : transmitterReady (s.port out) = true) :
    workLeft (tryInputs out is s) ≤ workLeft s ∧
      (is.any (eligible s out) = true → workLeft (tryInputs out is s) < workLeft s) := by
  induction is generalizing s with
  | nil => exact ⟨le_refl _, fun h => by simp at h⟩
  | cons i rest ih =>
    cases he : eligible s out i with
    | true =>
      have first := workLeft_tryInput_lt ((transmitterReady_iff _).1 ht).2.1 he
      have lower : workLeft (tryInputs out (i :: rest) s) < workLeft s := by
        cases hi : tryInput out i s with
        | granted t =>
          rw [tryInputs_granted rest he hi]
          rwa [hi] at first
        | passed t =>
          rw [tryInputs_passed rest he hi]
          rw [hi] at first
          exact (ih ((tryInput_passed_transmitter hi out).trans ht)).1.trans_lt first
      exact ⟨lower.le, fun _ => lower⟩
    | false =>
      have skip : tryInputs out (i :: rest) s = tryInputs out rest s :=
        tryInputs_skip (before := [i]) rest (by simpa using he)
      rw [skip]
      simpa [he] using ih ht

/-- An output that has something to send begins it, or refuses a head: either takes some of the work (R77). -/
theorem workLeft_chooseNext_lt {out : Port} {s : State} (h : canSend s out = true) :
    workLeft (chooseNext out s) < workLeft s := by
  have hr := ((canSend_iff s out).1 h).1
  have ht := ((transmitterReady_iff _).1 hr).2.1
  unfold chooseNext
  split
  · next hq => exact workLeft_sendReply_lt ht hq
  · split
    · next hq =>
      refine (workLeft_tryInputs _ hr).2 ?_
      simp only [requestReady, Bool.and_eq_true] at hq
      exact hq.2
    · exact workLeft_sendCredit_lt ht

/-- The head that the M arbiter grants leaves its lane (R82). -/
theorem workLeft_grantM_lt {s : State} (h : (nextAtM s).isSome = true) : workLeft (grantM s) < workLeft s := by
  have hm := ((nextAtM_isSome_iff s).1 h).1
  obtain ⟨x, hx⟩ := Option.isSome_iff_exists.1 h
  have ho : (offeredAtM x s).isSome = true := by
    rw [nextAtM, hm] at hx
    exact List.find?_some (p := fun x => (offeredAtM x s).isSome) hx
  obtain ⟨q, hq⟩ := Option.isSome_iff_exists.1 ho
  obtain ⟨⟨rest, hl⟩, -⟩ := offeredAtM_eq_some.1 hq
  have hw := workLeft_popHead (x := x) (s := s) (by simp [hl])
  have hg : workLeft (grantM s) = workLeft (popHead x s) := by
    simp only [grantM, hx, hq, workLeft_eq, mgmtWork]
    simp [popHead, hm]
    rfl
  omega

/-- Every action that may be taken takes some of the work that is left. -/
theorem workLeft_doInternal_lt (a : Internal) (s : State) (k : Nat) (h : a ∈ internalActions s) :
    workLeft (doInternal a { s with freeUsed := k }) < workLeft s := by
  rw [← workLeft_freeUsed s k]
  cases a with
  | examine x => exact workLeft_examineHead_lt (examine_mem_internalActions.1 h)
  | reexamine x => exact workLeft_reexamineHead_lt (reexamine_mem_internalActions.1 h)
  | placeReply => exact workLeft_placeReply_lt (placeReply_mem_internalActions.1 h)
  | grantM => exact workLeft_grantM_lt (grantM_mem_internalActions.1 h).2
  | choose x => exact workLeft_chooseNext_lt (choose_mem_internalActions.1 h).2

/-- The work that is left is bound enough: the router comes to rest (log entry 1). -/
theorem quiet_settle (s : State) : Quiet (settle s) :=
  settleFor_quiet workLeft workLeft_doInternal_lt _ s (le_refl _)

end Sys2Proof.Machine
end

section
/-! CERTIFICATE. Every event comes to rest, and every step ends at rest (R65, R66, R77, R82, R133). -/

namespace Sys2Proof.Machine

open Sys2Proof

/-! ### Coming to rest -/

/-- Turns that end at rest are actions that may be taken, one after another. -/
theorem comesToRest_settleFor (n : Nat) (s : State) (h : Quiet (settleFor n s)) : ComesToRest s (settleFor n s) := by
  induction n generalizing s with
  | zero => exact .quiet s h
  | succ n ih =>
    unfold settleFor at h ⊢
    split at h
    · next e => exact .quiet s e
    · next a rest e =>
      obtain ⟨b, hb, k, hk⟩ := takeOne_takes a rest s
      rw [hk] at h ⊢
      exact .act s _ b k (e ▸ hb) (ih _ h)

theorem sameSetup_settle (s : State) : SameSetup s (settle s) :=
  settle_keeps (SameSetup s) s (.refl s) fun a u k hu _ =>
    hu.trans ((sameSetup_freeUsed u k).trans (sameSetup_doInternal a _))

/-- Settles O3: each turn takes an action that may be taken, and the work that is left bounds the turns. -/
theorem everyEventComesToRest : Obligations.EveryEventComesToRest :=
  fun s => ⟨comesToRest_settleFor _ s (quiet_settle s), sameSetup_settle s⟩

/-! ### The commands after which nothing is settled -/

/-- A router is at rest when it has nothing to do but to send CREDITs, and owes no credit where it could (R17). -/
theorem quiet_of_calm {s : State} (h : Calm s)
    (ho : ∀ x, transmitterReady (s.port x) = true → creditsOwed (s.port x) = false) : Quiet s := by
  rw [quiet_iff_notMem]
  intro a ha
  rw [mem_internalActions, h.dueNow_eq_nil] at ha
  have hc := (ha.resolve_left (by simp)).2
  obtain rfl | ⟨x, rfl⟩ := mem_arbiterChoices hc
  · simp [grantM_mem_arbiterChoices, h.ungranted] at hc
  · obtain ⟨ht, hs⟩ := (canSend_iff s x).1 (choose_mem_arbiterChoices.1 hc)
    simp [h.noReply x ht, h.noRequest x ht, ho x ht] at hs

theorem Quiet.creditsOwed_eq_false {s : State} (h : Quiet s) {x : Port} (ht : transmitterReady (s.port x) = true) :
    creditsOwed (s.port x) = false := by
  refine Bool.eq_false_of_not_eq_true fun hc => ?_
  have hs := (canSend_iff s x).2 ⟨ht, .inr (.inr hc)⟩
  rw [h.canSend_eq_false x] at hs
  cases hs

/-- What may be taken does not read the model's own queue and count (log entry 1). -/
theorem quiet_with_queue {s : State} (h : Quiet s) (queue : List Instr) (k : Nat) :
    Quiet { s with pending := queue, freeUsed := k } := h

@[simp] theorem tick_port (s : State) (p : Port) : (tick s).port p = tickPort (s.port p) := by simp [tick, State.port]

/-- A tick frees no entry and takes none (R92). -/
theorem tick_track_eq_none_iff (s : State) (j : Fin 64) : (tick s).track[j] = none ↔ s.track[j] = none := by
  simp [tick]

/-- A tick keeps the origin and the state of every entry, so it keeps what an origin holds (R91). -/
theorem originCount_tick (s : State) (x : Port) : originCount (tick s) x = originCount s x := by
  have same (e : Option TrackEntry) : countsFor x (e.map tickEntry) = countsFor x e := by
    cases e with
    | none => rfl
    | some e => simp only [Option.map_some, tickEntry]; split <;> rfl
  simp only [originCount, tick, Vector.toList_map, List.countP_map]
  exact congrArg (List.countP · _) (funext same)

theorem noBusier_tick (s : State) : NoBusier s (tick s) := by
  constructor
  case room =>
    intro x
    rw [Bool.eq_iff_iff, trackingRoom_iff, trackingRoom_iff, originCount_tick]
    simp only [tick_track_eq_none_iff]
    exact Iff.rfl
  case offered =>
    intro out x
    simp [offeredAt, tickPort]
  case note => rfl
  all_goals simp [tickPort, transmitterReady]

/-- A tick gives no block anything to do: the expiries are events of their own (R186; log entry 4). -/
theorem quiet_tick {s : State} (h : Quiet s) : Quiet (tick s) := by
  have hs := calm_of_quiet h
  have hb := noBusier_tick s
  have hm : nextAtM (tick s) = nextAtM s := by
    have ho (x : Port) : offeredAtM x (tick s) = offeredAtM x s := by simp [offeredAtM, tickPort]
    simp only [nextAtM, ho]
    rfl
  have hcalm : Calm (tick s) := hs.of_noBusier hb (fun x => by simpa [tickPort] using hs.examined x)
    (fun x => by simpa [tickPort] using hs.unmarked x) ((hb.replyPlaceable rfl).trans hs.unplaced) (hm.trans hs.ungranted)
  refine quiet_of_calm hcalm fun x ht => ?_
  have ho := h.creditsOwed_eq_false (hb.ready x ht)
  rwa [tick_port]

@[simp] theorem assertReset_port (s : State) (p : Port) : (assertReset s).port p = resetPort (s.port p) := by
  simp [assertReset, State.port]

/-- While RST# is low a router has no head, no reply and no credit, so there is nothing to do (R182; log entry 13). -/
theorem quiet_assertReset (s : State) : Quiet (assertReset s) := by
  have hcalm : Calm (assertReset s) := by
    refine ⟨fun x => ?_, fun x => ?_, rfl, ?_, fun x _ => ?_, fun x _ => ?_⟩
    · simp [resetPort]
    · simp [resetPort]
    · refine Option.not_isSome_iff_eq_none.1 fun hm => ?_
      obtain ⟨-, x, hx⟩ := (nextAtM_isSome_iff _).1 hm
      simp [offeredAtM_isSome_iff, resetPort] at hx
    · simp [replyReady, resetPort]
    · simp [requestReady, resetPort]
  exact quiet_of_calm hcalm fun x _ => by simp [creditsOwed, resetPort]

theorem CommandEffect.quiet {s t : State} (h : CommandEffect s t) (hs : Quiet s) : Quiet t := by
  cases h with
  | none => exact hs
  | resetAsserted _ => exact quiet_assertReset s
  | resetReleased n m _ => exact quiet_with_queue (quiet_cold n m) s.pending s.freeUsed
  | ticked _ => exact quiet_tick hs
  | event u _ _ => exact quiet_settle u

/-- Settles O58: an event ends with the router's coming to rest, and the commands without one leave nothing to do. -/
theorem everyStepEndsAtRest : Obligations.EveryStepEndsAtRest := by
  intro s t hs h
  obtain ⟨queue, heffect⟩ := step_effect h
  exact heffect.quiet (quiet_with_queue hs queue s.freeUsed)

end Sys2Proof.Machine
end

section
/-! CERTIFICATE. The slots of a Reply Queue: which claimants wait for one, and who is given the slot that the start of a
transmission frees (R84, R94, R98). -/

namespace Sys2Proof.Machine

open Sys2Proof

/-! ### Who waits for a slot -/

theorem entryIndex_eq_some_iff {t : Tag} {i : Fin 64} : entryIndex t = some i ↔ t.toNat = i.val := by
  unfold entryIndex
  split
  · simp [Fin.ext_iff]
  · next h =>
    have := i.isLt
    simp
    omega

/-- An entry waits in REPLY_DUE for the queue of its origin (R98). -/
theorem owesReplyTo_iff (x : Port) (e : Option TrackEntry) :
    owesReplyTo x e = true ↔ ∃ f st, e = some f ∧ f.state = .replyDue st ∧ f.origin = x := by
  rcases e with - | ⟨st, o, tag, d, k, g, t⟩
  · simp [owesReplyTo]
  · cases st <;> simp [owesReplyTo]

/-- The reply in hand at a lane is its head, which names an ACTIVE entry of that lane's port with a reply in hand (R94). -/
theorem replyInHand_eq_some_iff {p : Port} {s : State} {r : Reply} {i : Fin 64} {e : TrackEntry} :
    replyInHand p s = some (r, i, e) ↔
      (∃ rest, (s.port p).repLane = r :: rest) ∧ r.tag.toNat = i.val ∧ s.track[i] = some e ∧ e.state = .active true ∧
        e.dest = p := by
  constructor
  · intro h
    unfold replyInHand at h
    split at h
    · cases h
    · next q rest hl =>
      split at h
      · cases h
      · next j hj =>
        split at h
        · cases h
        · next f hf =>
          split at h
          · next hc =>
            obtain ⟨rfl, rfl, rfl⟩ : q = r ∧ j = i ∧ f = e := by simpa using h
            exact ⟨⟨rest, hl⟩, entryIndex_eq_some_iff.1 hj, hf, hc⟩
          · cases h
  · rintro ⟨⟨rest, hl⟩, ht, he, hc⟩
    simp only [replyInHand, hl, entryIndex_eq_some_iff.2 ht, he, if_pos hc]

theorem claimantWaits_lane {x p : Port} {s : State} {c : Fin 8} (hp : p.val = c.val) :
    claimantWaits x s c = true ↔ ∃ r i e, replyInHand p s = some (r, i, e) ∧ e.origin = x := by
  unfold claimantWaits
  rw [← hp, portOfNat_fin]
  dsimp only
  rcases replyInHand p s with - | ⟨r, i, e⟩ <;> simp

theorem claimantWaits_dispatch (x : Port) (s : State) :
    claimantWaits x s 6 = true ↔ ∃ res a, (s.port x).head = .answered res a := by
  have h6 : portOfNat (6 : Fin 8).val = none := by decide
  unfold claimantWaits
  rw [h6]
  cases (s.port x).head <;> simp [dispatchClaimant]

theorem claimantWaits_mgmt (x : Port) (s : State) : claimantWaits x s 7 = true ↔ ∃ q, s.mgmt = .replyHeld x q := by
  have h7 : portOfNat (7 : Fin 8).val = none := by decide
  unfold claimantWaits
  rw [h7]
  cases s.mgmt <;> simp [dispatchClaimant]

/-! ### What a waiting claimant is given -/

theorem admitWaiting_lane {x p : Port} {s : State} {c : Fin 8} {r : Reply} {i : Fin 64} {e : TrackEntry}
    (hp : p.val = c.val) (hr : replyInHand p s = some (r, i, e)) : admitWaiting x c s = relayReply p r i e s := by
  simp only [admitWaiting, ← hp, portOfNat_fin, hr]

theorem admitWaiting_dispatch {x : Port} {s : State} {res : Option Resolution} {a : Reply}
    (hh : (s.port x).head = .answered res a) :
    admitWaiting x 6 s = popHead x (admitClaimant x 6 ⟨a, false⟩ s) := by
  have h6 : portOfNat (6 : Fin 8).val = none := by decide
  unfold admitWaiting
  rw [h6]
  simp [dispatchClaimant, hh]

theorem admitWaiting_mgmt {x : Port} {s : State} {q : QueuedReply} (hm : s.mgmt = .replyHeld x q) :
    admitWaiting x 7 s = { admitClaimant x 7 q s with mgmt := .idle } := by
  have h7 : portOfNat (7 : Fin 8).val = none := by decide
  unfold admitWaiting
  rw [h7]
  simp [dispatchClaimant, mgmtClaimant, hm]

/-! ### Who is given the slot -/

theorem serveReplyDue_eq {x : Port} {i : Fin 64} {e : TrackEntry} {st : OwedStatus} {s : State}
    (he : s.track[i] = some e) (hs : e.state = .replyDue st) :
    serveReplyDue x i s =
      setEntry i (some { e with state := .tombstone, time := s.settings.tombstone })
        (s.modifyPort x fun r =>
          { r with replyQueue := r.replyQueue ++
              [⟨⟨e.tag, if st = .timeout then 0x20#8 else 0x21#8, []⟩, false⟩] }) := by
  simp only [serveReplyDue, he, hs]
  cases st <;> rfl

/-- The lowest entry in REPLY_DUE for this queue is served before any claimant (R84, R98). -/
theorem giveSlot_due {x : Port} {i : Fin 64} {s : State} (hi : owesReplyTo x s.track[i] = true)
    (hj : ∀ j, j < i → ¬ owesReplyTo x s.track[j] = true) : giveSlot x s = serveReplyDue x i s := by
  have found : trackIndices.find? (fun i => owesReplyTo x s.track[i]) = some i := by
    rw [trackIndices, ← Fin.find?_eq_find?_finRange, Fin.find?_eq_some_iff]
    exact ⟨hi, fun j h => by simpa using hj j h⟩
  simp only [giveSlot, found]

theorem find?_due_eq_none {x : Port} {s : State} (hd : ∀ i : Fin 64, ¬ owesReplyTo x s.track[i] = true) :
    trackIndices.find? (fun i => owesReplyTo x s.track[i]) = none := List.find?_eq_none.2 fun i _ => hd i

/-- With no entry in REPLY_DUE for this queue, the first claimant after the pointer that waits is admitted (R84). -/
theorem giveSlot_claimant {x : Port} {s : State} {c : Fin 8} {before after : List (Fin 8)}
    (hd : ∀ i : Fin 64, ¬ owesReplyTo x s.track[i] = true)
    (ho : cyclicAfter (s.port x).queuePointer = before ++ c :: after) (hb : ∀ b ∈ before, claimantWaits x s b = false)
    (hc : claimantWaits x s c = true) : giveSlot x s = admitWaiting x c s := by
  have found : (cyclicAfter (s.port x).queuePointer).find? (claimantWaits x s) = some c :=
    List.find?_eq_some_iff_append.2 ⟨hc, before, after, ho, by simpa using hb⟩
  simp only [giveSlot, find?_due_eq_none hd, found]

theorem giveSlot_free {x : Port} {s : State} (hd : ∀ i : Fin 64, ¬ owesReplyTo x s.track[i] = true)
    (hc : ∀ c, claimantWaits x s c = false) : giveSlot x s = s := by
  have none_waits : (cyclicAfter (s.port x).queuePointer).find? (claimantWaits x s) = none :=
    List.find?_eq_none.2 fun c _ => by simp [hc c]
  simp only [giveSlot, find?_due_eq_none hd, none_waits]

/-- Settles O32: the entry that is due, otherwise the first claimant that waits, by its kind; and who waits. -/
theorem freedSlotsAreGivenOutInOrder : Obligations.FreedSlotsAreGivenOutInOrder := by
  intro x s
  refine ⟨fun i => owesReplyTo x s.track[i] = true, fun i => owesReplyTo_iff x _, fun i e st hi hj he hs => ?_,
    fun hd c before after ho hb => ⟨fun p r rest i e hp hl ht he hs hdest hx => ?_, fun res a hc hh => ?_,
      fun q hc hm => ?_⟩, giveSlot_free, fun k j => cyclicAfter_getElem? k j, fun c p hp => ?_,
    claimantWaits_dispatch x s, claimantWaits_mgmt x s⟩
  · rw [giveSlot_due hi hj, serveReplyDue_eq he hs]
  · have hr : replyInHand p s = some (r, i, e) := replyInHand_eq_some_iff.2 ⟨⟨rest, hl⟩, ht, he, hs, hdest⟩
    obtain rfl : laneClaimant p = c := Fin.ext hp
    rw [giveSlot_claimant hd ho hb ((claimantWaits_lane hp).2 ⟨r, i, e, hr, hx⟩), admitWaiting_lane hp hr, relayReply, hx]
    rfl
  · obtain rfl : c = 6 := Fin.ext hc
    rw [giveSlot_claimant hd ho hb ((claimantWaits_dispatch x s).2 ⟨res, a, hh⟩), admitWaiting_dispatch hh]
    rfl
  · obtain rfl : c = 7 := Fin.ext hc
    rw [giveSlot_claimant hd ho hb ((claimantWaits_mgmt x s).2 ⟨q, hm⟩), admitWaiting_mgmt hm]
    rfl
  · rw [claimantWaits_lane hp]
    simp only [replyInHand_eq_some_iff]
    constructor
    · rintro ⟨r, i, e, ⟨⟨rest, hl⟩, ht, he, hs, hd⟩, hx⟩
      exact ⟨r, rest, i, e, hl, ht, he, hs, hd, hx⟩
    · rintro ⟨r, rest, i, e, hl, ht, he, hs, hd, hx⟩
      exact ⟨r, i, e, ⟨⟨rest, hl⟩, ht, he, hs, hd⟩, hx⟩

end Sys2Proof.Machine
end

section
/-! CERTIFICATE. The fence check, the form check and the lookup of a head (R67 to R71, R75), and the Management Unit's directive
and reply (R82, R131, R133). -/

namespace Sys2Proof.Machine

open Sys2Proof

/-! ### The fence and the form of a head -/

/-- A head that the fence stops is not looked at further (R67, R68). -/
theorem examineHead_fenced {x : Port} {h : Request} {rest : List Request} {s : State}
    (hl : (s.port x).reqLane = h :: rest)
    (hf : ¬ ((s.port x).fenced = false ∨
      (h.kind = .directive ∧ h.target.toNat = s.node.val ∧ h.command = 0x07#8 ∧ s.manager = some x))) :
    examineHead x s = stopByFence x none h s := by
  have hs : fenceStops x (passesFence x h s) s = true := by
    rw [← Bool.not_eq_false, fenceStops_eq_false_iff, passesFence_iff]
    exact hf
  simp [examineHead, hl, hs]

/-- A malformed head that passes the fence check is not resolved (R67, R30). -/
theorem examineHead_malformed {x : Port} {h : Request} {rest : List Request} {m : Malformation} {s : State}
    (hl : (s.port x).reqLane = h :: rest)
    (hf : (s.port x).fenced = false ∨
      (h.kind = .directive ∧ h.target.toNat = s.node.val ∧ h.command = 0x07#8 ∧ s.manager = some x))
    (hm : malformation h = some m) : examineHead x s = stopMalformed x h m s := by
  have hs : fenceStops x (passesFence x h s) s = false :=
    (fenceStops_eq_false_iff _ _ _).2 (hf.imp_right (passesFence_iff x h s).2)
  simp [examineHead, hl, hs, hm]

theorem stopMalformed_posted {x : Port} {h : Request} {m : Malformation} {s : State}
    (hk : h.kind = .store ∨ h.kind = .note) :
    stopMalformed x h m s =
      popHead x (raiseFault { kind := .malformed, port := some x, tag := some h.tag, detail := some m.code } s) := by
  rw [stopMalformed, if_pos ((posted_iff _).2 hk), dropWithFault]

theorem stopMalformed_refused {x : Port} {h : Request} {m : Malformation} {s : State} (hs : h.kind ≠ .store)
    (hn : h.kind ≠ .note) :
    stopMalformed x h m s = offerAnswer x none ⟨h.tag, 0x16#8, [m.code.setWidth 32]⟩ s := by
  rw [stopMalformed, if_neg (by simp [not_posted hs hn])]
  rfl

/-- An answer that finds room is admitted, and its head leaves the lane (R75). -/
theorem offerAnswer_admitted {x : Port} {res : Option Resolution} {a : Reply} {s : State}
    (hu : (s.port x).link = .up) (hr : (s.port x).replyQueue.length < 8) :
    offerAnswer x res a s = popHead x (s.modifyPort x fun r =>
      { r with replyQueue := r.replyQueue ++ [⟨a, false⟩], queuePointer := 6 }) := by
  rw [offerAnswer, if_pos ((queueHasRoom_iff s x).2 ⟨hu, hr⟩)]
  rfl

/-- An answer that finds no room waits with its head (R75). -/
theorem offerAnswer_waits {x : Port} {res : Option Resolution} {a : Reply} {s : State}
    (hr : 8 ≤ (s.port x).replyQueue.length) :
    offerAnswer x res a s = s.modifyPort x fun r => { r with head := .answered res a, recheck := false } := by
  rw [offerAnswer, if_neg]
  rw [queueHasRoom_iff]
  rintro ⟨-, hlt⟩
  omega

/-- Settles O21: the fence check, the form check, and then the room for the answer of a refused head. -/
theorem fenceAndFormComeFirst : Obligations.FenceAndFormComeFirst := by
  refine ⟨fun x h rest s hl => ⟨_, Iff.rfl, fun hp hk => ?_, fun hp hs hn => ?_, fun m hp hm hk => ?_,
    fun m hp hm hs hn => ?_⟩, fun x res a s hu => ⟨offerAnswer_admitted hu, offerAnswer_waits⟩⟩
  · rw [examineHead_fenced hl hp, stopByFence_posted hk]
  · rw [examineHead_fenced hl hp, stopByFence_refused hs hn]
  · rw [examineHead_malformed hl hp hm, stopMalformed_posted hk]
  · rw [examineHead_malformed hl hp hm, stopMalformed_refused hs hn]

/-! ### The lookup of a head -/

/-- A well-formed memory or path-lock head of an unfenced port is looked up (R67, R69). -/
theorem examineHead_byAddress {x : Port} {h : Request} {rest : List Request} {s : State}
    (hl : (s.port x).reqLane = h :: rest) (hf : (s.port x).fenced = false) (hm : malformation h = none)
    (hd : h.kind ≠ .directive) (hn : h.kind ≠ .note) : examineHead x s = resolveAddress x h s := by
  have hb : h.kind.byNode = false := by
    cases hk : h.kind
    case directive => exact absurd hk hd
    case note => exact absurd hk hn
    all_goals rfl
  simp [examineHead, hl, fenceStops_of_unfenced _ hf, hm, hb]

theorem resolveAddress_noRoute {x : Port} {h : Request} {s : State} (hw : lookup s.windows.active x h = .noRoute) :
    resolveAddress x h s = stopHead x (some ⟨.noWindow, s.windows.generation⟩) h .noRoute
      { kind := .noRoute, port := some x, addr := some h.addr } s := by
  simp only [resolveAddress, hw]

theorem resolveAddress_denied {x : Port} {h : Request} {s : State} {i : Fin 48}
    (hw : lookup s.windows.active x h = .denied i) :
    resolveAddress x h s = stopHead x (some ⟨.windowDenied i, s.windows.generation⟩) h .denied
      { kind := .denied, port := some x, addr := some h.addr, index := some (BitVec.ofNat 6 i.val) } s := by
  simp only [resolveAddress, hw]

/-- A routed CLAIM or RELEASE is decided by the Lock Table, and every other routed head goes on to its output (R71, R72). -/
theorem resolveAddress_routed {x : Port} {h : Request} {s : State} {i : Fin 48} {d : Port} {out : Addr}
    (hw : lookup s.windows.active x h = .routed i d out) :
    resolveAddress x h s = if h.kind = .claim ∨ h.kind = .release then answerPathLock x h i d out s
      else outputChecks x h ⟨.memory i d out, s.windows.generation⟩ s := by
  simp [resolveAddress, hw]

theorem stopHead_posted {x : Port} {res : Option Resolution} {h : Request} {st : Status} {r : FaultReport} {s : State}
    (hk : h.kind.posted = true) : stopHead x res h st r s = popHead x (raiseFault r s) := by
  rw [stopHead, if_pos hk, dropWithFault]

theorem stopHead_refused {x : Port} {res : Option Resolution} {h : Request} {st : Status} {r : FaultReport} {s : State}
    (hk : h.kind.posted = false) : stopHead x res h st r s = offerAnswer x res ⟨h.tag, st.code, []⟩ s := by
  rw [stopHead, if_neg (by simp [hk]), refuse]

/-- Settles O23: the three answers of the lookup, and for a routed head its kind. -/
theorem addressesResolveByWindow : Obligations.AddressesResolveByWindow := by
  intro x h rest s hl hf hm hd hn
  have posted (hk : h.kind = .store) : h.kind.posted = true := (posted_iff _).2 (.inl hk)
  have refused (hk : h.kind ≠ .store) : h.kind.posted = false := not_posted hk hn
  rw [examineHead_byAddress hl hf hm hd hn]
  refine ⟨_, rfl, fun hw => ?_, fun i hw => ?_, fun i d out hw => ?_⟩
  · rw [resolveAddress_noRoute hw]
    exact ⟨fun hk => stopHead_posted (posted hk), fun hk => stopHead_refused (refused hk)⟩
  · rw [resolveAddress_denied hw]
    exact ⟨fun hk => stopHead_posted (posted hk), fun hk => stopHead_refused (refused hk)⟩
  · rw [resolveAddress_routed hw]
    refine ⟨fun hk => ?_, fun hk => ?_, fun hc hr => ?_⟩
    · simp [hk, answerPathLock, refuse]
    · simp [hk, answerPathLock, refuse]
    · simp [hc, hr]

/-! ### The Management Unit -/

/-- The first input after the pointer whose head is offered to the M arbiter is granted, when the unit is IDLE (R82). -/
theorem nextAtM_first {s : State} {x : Port} {before after : List Port} (hm : s.mgmt = .idle)
    (ho : cyclicAfter s.mPointer = before ++ x :: after)
    (hb : ∀ y ∈ before, ∀ k, (s.port y).head ≠ .offered ⟨.management, k⟩) (hx : (offeredAtM x s).isSome = true) :
    nextAtM s = some x := by
  have skipped : ∀ y ∈ before, (!(offeredAtM y s).isSome) = true := by
    intro y hy
    rw [Bool.not_eq_true', ← Bool.not_eq_true, offeredAtM_isSome_iff]
    rintro ⟨-, -, g, -, hg⟩
    exact hb y hy g hg
  simp only [nextAtM, hm]
  exact List.find?_eq_some_iff_append.2 ⟨hx, before, after, ho, skipped⟩

theorem grantM_of_offered {s : State} {x : Port} {h : Request} (hn : nextAtM s = some x)
    (ho : offeredAtM x s = some h) :
    grantM s = { popHead x s with mgmt := .executing (directiveOf x h), mPointer := x } := by
  simp only [grantM, hn, ho]

theorem nextAtM_busy {s : State} (hm : s.mgmt ≠ .idle) : nextAtM s = none := by
  rw [← Option.not_isSome_iff_eq_none, nextAtM_isSome_iff]
  exact fun h => hm h.1

/-- Settles O33: the grant of the first candidate, no grant to a unit that is not IDLE, and the placing of a reply. -/
theorem managementUnitTakesOneDirective : Obligations.ManagementUnitTakesOneDirective := by
  refine ⟨fun x before after h rest g s hm hc hb hl hh => ?_, fun s hm => ?_, fun o q s hm => ?_, fun o q s hm => ?_⟩
  · have ho : offeredAtM x s = some h := offeredAtM_eq_some.2 ⟨⟨rest, hl⟩, g, hh⟩
    exact grantM_of_offered (nextAtM_first hm hc hb (by simp [ho])) ho
  · simp only [grantM, nextAtM_busy hm]
  · simp only [placeReply, hm]
    rfl
  · simp [replyPlaceable_iff, hm, queueHasRoom_iff]

end Sys2Proof.Machine
end

end

section
-- Theorems are checked one after another: a thread for each takes a stack of its own, and there is no room for them all.
set_option Elab.async false

section
/-! CERTIFICATE. The allocation of a tracking entry: the three checks in their order, and the count that the quota bounds (R89,
R91). -/

namespace Sys2Proof.Machine

open Sys2Proof

/-! ### What an entry blocks, and what it counts for -/

/-- The states in which an entry blocks its tag are all but ORPHANED and TOMBSTONE (R89). -/
theorem TrackState.blocksTag_iff (st : TrackState) : st.blocksTag = true ↔ st ≠ .orphaned ∧ st ≠ .tombstone := by
  cases st <;> simp [TrackState.blocksTag]

theorem TrackState.blocksTag_of_active {st : TrackState} {b : Bool} (h : st = .active b) : st.blocksTag = true := h ▸ rfl

/-- The states that count toward a quota are ACTIVE, ORPHANED and REPLY_DUE (R91). -/
theorem TrackState.counts_iff (st : TrackState) :
    st.counts = true ↔ (∃ b, st = .active b) ∨ st = .orphaned ∨ ∃ owed, st = .replyDue owed := by
  cases st <;> simp [TrackState.counts]

theorem blocksTagOf_iff (x : Port) (tag : Tag) (v : Option TrackEntry) :
    blocksTagOf x tag v = true ↔ ∃ e, v = some e ∧ e.origin = x ∧ e.tag = tag ∧ e.state.blocksTag = true := by
  cases v <;> simp [blocksTagOf, and_assoc]

theorem countsFor_iff (x : Port) (v : Option TrackEntry) :
    countsFor x v = true ↔ ∃ e, v = some e ∧ e.origin = x ∧ e.state.counts = true := by
  cases v <;> simp [countsFor]

/-! ### The table as the list of its entries -/

/-- The table is read from index 0 upward. -/
theorem track_toList (s : State) : s.track.toList = trackIndices.map fun i => s.track[i] := by
  refine List.ext_getElem (by simp [trackIndices]) fun k _ _ => ?_
  simp [trackIndices]

theorem mem_trackIndices (i : Fin 64) : i ∈ trackIndices := List.mem_finRange i

/-- The entries that count for an origin, by index (R91). -/
def heldEntries (s : State) (x : Port) : List (Fin 64) := trackIndices.filter fun i => countsFor x s.track[i]

theorem heldEntries_nodup (s : State) (x : Port) : (heldEntries s x).Nodup := (List.nodup_finRange 64).filter _

theorem mem_heldEntries {s : State} {x : Port} {i : Fin 64} :
    i ∈ heldEntries s x ↔ ∃ e, s.track[i] = some e ∧ e.origin = x ∧ e.state.counts = true := by
  rw [heldEntries, List.mem_filter, countsFor_iff]
  exact and_iff_right (mem_trackIndices i)

theorem originCount_eq_length (s : State) (x : Port) : originCount s x = (heldEntries s x).length := by
  rw [originCount, track_toList, List.countP_map, List.countP_eq_length_filter]
  rfl

/-! ### The three checks -/

/-- An ACTIVE or REPLY_DUE entry holds this origin and tag (R89). -/
def TagInUse (s : State) (x : Port) (tag : Tag) : Prop :=
  ∃ (i : Fin 64) (e : TrackEntry), s.track[i] = some e ∧ e.origin = x ∧ e.tag = tag ∧ e.state.blocksTag = true

theorem any_blocksTagOf_iff (s : State) (x : Port) (tag : Tag) :
    s.track.toList.any (blocksTagOf x tag) = true ↔ TagInUse s x tag := by
  simp [track_toList, blocksTagOf_iff, mem_trackIndices, TagInUse]

theorem lowestFree_eq_some_iff {s : State} {i : Fin 64} :
    lowestFree s = some i ↔ s.track[i] = none ∧ ∀ j : Fin 64, j < i → s.track[j] ≠ none := by
  rw [lowestFree, trackIndices, ← Fin.find?_eq_find?_finRange, Fin.find?_eq_some_iff]
  simp only [Option.isNone_iff_eq_none, Option.isNone_eq_false_iff, Option.isSome_iff_ne_none]

theorem lowestFree_eq_none_iff {s : State} : lowestFree s = none ↔ ∀ i : Fin 64, s.track[i] ≠ none := by
  simp [lowestFree, mem_trackIndices]

/-- The three answers of an allocation, each by the check that gives it (R89, R91). -/
theorem allocate_cases (s : State) (x : Port) (tag : Tag) :
    (TagInUse s x tag ∧ allocate s x tag = .tagInUse) ∨
    (¬ TagInUse s x tag ∧ (lowestFree s = none ∨ s.settings.quota[x] ≤ originCount s x) ∧
      allocate s x tag = .noEntry) ∨
    (∃ i, ¬ TagInUse s x tag ∧ lowestFree s = some i ∧ originCount s x < s.settings.quota[x] ∧
      allocate s x tag = .entry i) := by
  unfold allocate
  split
  · next h => exact .inl ⟨(any_blocksTagOf_iff s x tag).1 h, rfl⟩
  · next h =>
    have free := mt (any_blocksTagOf_iff s x tag).2 h
    split
    · next hf => exact .inr (.inl ⟨free, .inl hf, rfl⟩)
    · next i hf =>
      split
      · next hq => exact .inr (.inl ⟨free, .inr hq, rfl⟩)
      · next hq => exact .inr (.inr ⟨i, free, hf, Nat.lt_of_not_le hq, rfl⟩)

theorem allocate_eq_tagInUse_iff {s : State} {x : Port} {tag : Tag} :
    allocate s x tag = .tagInUse ↔ TagInUse s x tag := by
  obtain ⟨hu, h⟩ | ⟨hu, -, h⟩ | ⟨i, hu, -, -, h⟩ := allocate_cases s x tag <;> simp [h, hu]

theorem allocate_eq_noEntry_iff {s : State} {x : Port} {tag : Tag} :
    allocate s x tag = .noEntry ↔
      ¬ TagInUse s x tag ∧ (lowestFree s = none ∨ s.settings.quota[x] ≤ originCount s x) := by
  obtain ⟨hu, h⟩ | ⟨hu, hn, h⟩ | ⟨i, hu, hf, hq, h⟩ := allocate_cases s x tag
  · simp [h, hu]
  · exact iff_of_true h ⟨hu, hn⟩
  · exact iff_of_false (by simp [h]) fun ⟨_, hn⟩ => hn.elim (by simp [hf]) (Nat.not_le.2 hq)

theorem allocate_eq_entry_iff {s : State} {x : Port} {tag : Tag} {i : Fin 64} :
    allocate s x tag = .entry i ↔
      ¬ TagInUse s x tag ∧ lowestFree s = some i ∧ originCount s x < s.settings.quota[x] := by
  obtain ⟨hu, h⟩ | ⟨hu, hn | hn, h⟩ | ⟨j, hu, hf, hq, h⟩ := allocate_cases s x tag
  · simp [h, hu]
  · simp [h, hn]
  · exact iff_of_false (by simp [h]) fun ⟨_, _, hq⟩ => Nat.not_lt.2 hn hq
  · rw [h, hf, AllocAnswer.entry.injEq, Option.some.injEq]
    exact ⟨fun e => ⟨hu, e, hq⟩, fun ⟨_, e, _⟩ => e⟩

/-- Settles O29: each answer by the check that gives it, and the count by the entries that the origin holds. -/
theorem allocationFollowsTheThreeChecks : Obligations.AllocationFollowsTheThreeChecks := by
  intro x tag s
  refine ⟨TagInUse s x tag, ?_, allocate_eq_tagInUse_iff, fun i => ?_, ?_, heldEntries s x, heldEntries_nodup s x,
    fun i => ?_, originCount_eq_length s x⟩
  · simp only [TagInUse, TrackState.blocksTag_iff]
  · rw [allocate_eq_entry_iff, lowestFree_eq_some_iff, and_assoc]
  · rw [allocate_eq_noEntry_iff, lowestFree_eq_none_iff]
  · simp only [mem_heldEntries, TrackState.counts_iff]

end Sys2Proof.Machine
end

section
/-! SUPPORT. What an event does to the tags that are in use: examinations leave the Tracking Table as it is, and every block but
the Output Arbiters can only take entries out of ACTIVE and REPLY_DUE (R89, R103). -/

namespace Sys2Proof.Machine

open Sys2Proof

/-! ### Examinations and the Tracking Table -/

@[simp] theorem dropWithFault_track (x : Port) (r : FaultReport) (s : State) :
    (dropWithFault x r s).track = s.track := by
  simp [dropWithFault]

@[simp] theorem refuse_track (x : Port) (res : Option Resolution) (h : Request) (st : Status) (payload : List Word)
    (s : State) : (refuse x res h st payload s).track = s.track := by
  simp [refuse]

@[simp] theorem stopHead_track (x : Port) (res : Option Resolution) (h : Request) (st : Status) (r : FaultReport)
    (s : State) : (stopHead x res h st r s).track = s.track := by
  unfold stopHead; split <;> simp

@[simp] theorem stopByFence_track (x : Port) (res : Option Resolution) (h : Request) (s : State) :
    (stopByFence x res h s).track = s.track := by
  unfold stopByFence; split <;> simp [countFencedDrop]

@[simp] theorem stopMalformed_track (x : Port) (h : Request) (m : Malformation) (s : State) :
    (stopMalformed x h m s).track = s.track := by
  unfold stopMalformed; split <;> simp

@[simp] theorem setHead_track (x : Port) (st : HeadState) (s : State) : (setHead x st s).track = s.track := rfl

@[simp] theorem lockOrOffer_track (x : Port) (res : Resolution) (s : State) :
    (lockOrOffer x res s).track = s.track := by
  unfold lockOrOffer; split <;> simp

@[simp] theorem outputChecks_track (x : Port) (h : Request) (res : Resolution) (s : State) :
    (outputChecks x h res s).track = s.track := by
  unfold outputChecks; (repeat' split) <;> simp

@[simp] theorem answerPathLock_track (x : Port) (h : Request) (i : Fin 48) (d : Port) (out : Addr) (s : State) :
    (answerPathLock x h i d out s).track = s.track := by
  unfold answerPathLock
  dsimp only
  rw [refuse_track]
  split
  · obtain ⟨r, l, e | e | e⟩ := decideClaim_state x i s <;> simp [e]
  · obtain ⟨r, e | e⟩ := decideRelease_state x i s <;> simp [e]

@[simp] theorem resolveAddress_track (x : Port) (h : Request) (s : State) : (resolveAddress x h s).track = s.track := by
  unfold resolveAddress; (repeat' split) <;> simp

@[simp] theorem stopByHopLimit_track (x : Port) (h : Request) (s : State) : (stopByHopLimit x h s).track = s.track := by
  unfold stopByHopLimit; split <;> simp

@[simp] theorem resolveForward_track (x : Port) (h : Request) (s : State) : (resolveForward x h s).track = s.track := by
  unfold resolveForward; dsimp only; split <;> simp

@[simp] theorem resolveNode_track (x : Port) (h : Request) (s : State) : (resolveNode x h s).track = s.track := by
  unfold resolveNode; (repeat' split) <;> simp

/-- A first examination leaves every entry as it is. -/
@[simp] theorem examineHead_track (x : Port) (s : State) : (examineHead x s).track = s.track := by
  unfold examineHead; (repeat' split) <;> simp

@[simp] theorem recheckHeld_track (x : Port) (h : Request) (res : Resolution) (s : State) :
    (recheckHeld x h res s).track = s.track := by
  unfold recheckHeld; split <;> simp

/-- A later examination leaves every entry as it is. -/
@[simp] theorem reexamineHead_track (x : Port) (s : State) : (reexamineHead x s).track = s.track := by
  unfold reexamineHead; dsimp only; split <;> simp

@[simp] theorem placeReply_track (s : State) : (placeReply s).track = s.track := by
  unfold placeReply; split <;> simp

@[simp] theorem grantM_track (s : State) : (grantM s).track = s.track := by
  unfold grantM; (repeat' split) <;> simp

@[simp] theorem grantHead_track (out x : Port) (i : Fin 7) (r : Request) (s : State) :
    (grantHead out x i r s).track = s.track := rfl

@[simp] theorem grantNote_track (out : Port) (q : QueuedNote) (s : State) : (grantNote out q s).track = s.track := rfl

/-! ### Tags that are given up -/

/-- From `s` to `t` no tag comes into use: an entry that blocks a tag in `t` blocked it in `s`, for an origin that is still UP
if it was. -/
structure ReleasesTags (s t : State) : Prop where
  entry : ∀ (i : Fin 64) (e : TrackEntry), t.track[i] = some e → e.state.blocksTag = true →
    ∃ f, s.track[i] = some f ∧ f.state.blocksTag = true ∧ f.origin = e.origin ∧ f.tag = e.tag
  up : ∀ (i : Fin 64) (e : TrackEntry), t.track[i] = some e → e.state.blocksTag = true →
    s.isUp e.origin = true → t.isUp e.origin = true

theorem ReleasesTags.refl (s : State) : ReleasesTags s s :=
  ⟨fun _ e he hb => ⟨e, he, hb, rfl, rfl⟩, fun _ _ _ _ hu => hu⟩

theorem ReleasesTags.trans {s t u : State} (h : ReleasesTags s t) (k : ReleasesTags t u) : ReleasesTags s u := by
  constructor
  case entry =>
    intro i e he hb
    obtain ⟨f, hf, hfb, ho, ht⟩ := k.entry i e he hb
    obtain ⟨g, hg, hgb, go, gt⟩ := h.entry i f hf hfb
    exact ⟨g, hg, hgb, go.trans ho, gt.trans ht⟩
  case up =>
    intro i e he hb hu
    obtain ⟨f, hf, hfb, ho, -⟩ := k.entry i e he hb
    exact k.up i e he hb (ho ▸ h.up i f hf hfb (ho ▸ hu))

/-- Entries that blocked different tags still do (R89). -/
theorem ReleasesTags.tagLaw {s t : State} (h : ReleasesTags s t) (hs : TagLaw s) : TagLaw t := by
  intro i j e f he hf hbe hbf ho ht
  obtain ⟨e', he', hbe', ho', ht'⟩ := h.entry i e he hbe
  obtain ⟨f', hf', hbf', go', gt'⟩ := h.entry j f hf hbf
  exact hs i j e' f' he' hf' hbe' hbf' (by rw [ho', go', ho]) (by rw [ht', gt', ht])

/-- Origins that were UP still are (R103). -/
theorem ReleasesTags.originLaw {s t : State} (h : ReleasesTags s t) (hs : OriginLaw s) : OriginLaw t := by
  intro i e he hb
  obtain ⟨f, hf, hfb, ho, -⟩ := h.entry i e he hb
  exact h.up i e he hb (ho ▸ hs i f hf hfb)

/-! ### Changes of other blocks, and of one entry -/

/-- The table is the same, and no port leaves UP. -/
theorem releasesTags_of_same {s t : State} (ht : t.track = s.track := by rfl)
    (hu : ∀ p, (s.port p).link = .up → (t.port p).link = .up := by exact fun _ h => h) : ReleasesTags s t :=
  ⟨fun _ e he hb => ⟨e, ht ▸ he, hb, rfl, rfl⟩, fun _ _ _ _ h => (isUp_iff _ _).2 (hu _ ((isUp_iff _ _).1 h))⟩

/-- An empty table has no tag in use. -/
theorem releasesTags_of_free {s t : State} (h : ∀ i : Fin 64, t.track[i] = none) : ReleasesTags s t :=
  ⟨fun i _ he => by simp [h i] at he, fun i _ he => by simp [h i] at he⟩

theorem SameSetup.link {s t : State} (h : SameSetup s t) (p : Port) : (t.port p).link = (s.port p).link := by
  obtain ⟨-, -, -, -, -, -, -, -, -, -, hp⟩ := h
  exact (hp p).1

theorem SameSetup.releasesTags {s t : State} (h : SameSetup s t) (ht : t.track = s.track) : ReleasesTags s t :=
  releasesTags_of_same ht fun p hp => (h.link p).trans hp

/-- A change of other blocks before. -/
theorem ReleasesTags.after {s u t : State} (h : ReleasesTags u t) (ht : u.track = s.track := by rfl)
    (hp : u.ports = s.ports := by rfl) : ReleasesTags s t :=
  (releasesTags_of_same ht fun p hu => by simpa [State.port, hp] using hu).trans h

theorem releasesTags_modifyPort {p : Port} {f : PortRec → PortRec} {s : State}
    (h : (s.port p).link = .up → (f (s.port p)).link = .up) : ReleasesTags s (s.modifyPort p f) := by
  refine releasesTags_of_same rfl fun q hq => ?_
  by_cases e : q = p
  · subst e
    rw [State.port_modifyPort_self]
    exact h hq
  · rwa [State.port_modifyPort_of_ne s f e]

/-- An entry that blocks no tag, or blocks the one that its index blocked before. -/
theorem releasesTags_setEntry {i : Fin 64} {v : Option TrackEntry} {s : State}
    (h : ∀ e, v = some e → e.state.blocksTag = true →
      ∃ f, s.track[i] = some f ∧ f.state.blocksTag = true ∧ f.origin = e.origin ∧ f.tag = e.tag) :
    ReleasesTags s (setEntry i v s) := by
  refine ⟨fun j e he hb => ?_, fun _ _ _ _ hu => hu⟩
  by_cases hj : j = i
  · subst hj
    rw [setEntry_self] at he
    exact h e he hb
  · rw [setEntry_of_ne s v hj] at he
    exact ⟨e, he, hb, rfl, rfl⟩

theorem releasesTags_setEntry_none (i : Fin 64) (s : State) : ReleasesTags s (setEntry i none s) :=
  releasesTags_setEntry fun _ h => by cases h

theorem releasesTags_toTombstone (i : Fin 64) (e : TrackEntry) (s : State) : ReleasesTags s (toTombstone i e s) :=
  releasesTags_setEntry fun _ he hb => by simp [← Option.some.inj he, TrackState.blocksTag] at hb

/-- An entry that blocks a tag may be in another state, and its time may change. -/
theorem releasesTags_restate {i : Fin 64} {e : TrackEntry} {s : State} (he : s.track[i] = some e)
    (hb : e.state.blocksTag = true) (st : TrackState) (k : Nat) :
    ReleasesTags s (setEntry i (some { e with state := st, time := k }) s) :=
  releasesTags_setEntry fun _ hv _ => ⟨e, he, hb, by rw [← Option.some.inj hv], by rw [← Option.some.inj hv]⟩

theorem releasesTags_raiseFault (r : FaultReport) (s : State) : ReleasesTags s (raiseFault r s) :=
  (sameSetup_raiseFault r s).releasesTags (by simp)

theorem releasesTags_routeCheck (s : State) : ReleasesTags s (routeCheck s) :=
  (sameSetup_routeCheck s).releasesTags (by simp)

theorem releasesTags_popReply (p : Port) (s : State) : ReleasesTags s (popReply p s) :=
  (sameSetup_popReply p s).releasesTags (by simp)

theorem releasesTags_markHeads (which : Port → PortRec → Bool) (s : State) : ReleasesTags s (markHeads which s) :=
  (sameSetup_markHeads which s).releasesTags (by simp)

theorem releasesTags_offerAnswer (x : Port) (res : Option Resolution) (a : Reply) (s : State) :
    ReleasesTags s (offerAnswer x res a s) :=
  (sameSetup_offerAnswer x res a s).releasesTags (by simp)

/-- A synthesized answer ends an entry in TOMBSTONE or REPLY_DUE (R96, R101). -/
theorem releasesTags_placeSynth {i : Fin 64} {e : TrackEntry} {s : State} (he : s.track[i] = some e)
    (hb : e.state.blocksTag = true) (st : OwedStatus) : ReleasesTags s (placeSynth i e st s) := by
  rcases placeSynth_cases i e st s with h | ⟨v, h, -, -, rfl | rfl⟩ <;> rw [h]
  · exact ((sameSetup_enqueueReply _ _ s).releasesTags (by simp)).trans (releasesTags_toTombstone i e _)
  · exact releasesTags_toTombstone i e s
  · exact releasesTags_restate he hb (.replyDue st) 0

/-! ### Arbiters that give no entry -/

/-- The slot of a Reply Queue is given out: an owed reply ends its entry, a relayed one frees it (R94, R98). -/
theorem releasesTags_giveSlot (x : Port) (s : State) : ReleasesTags s (giveSlot x s) := by
  have admitted (p : Port) (c : Fin 8) (q : QueuedReply) (u : State) : ReleasesTags u (admitClaimant p c q u) :=
    (sameSetup_admitClaimant p c q u).releasesTags (by simp)
  obtain ⟨i, e, st, -, -, -, h⟩ | ⟨p, r, i, e, -, -, h⟩ | ⟨res, a, -, h⟩ | ⟨q, -, h⟩ | h := giveSlot_cases x s <;> rw [h]
  · exact ((sameSetup_enqueueReply x _ s).releasesTags (by simp)).trans (releasesTags_toTombstone i e _)
  · exact (admitted e.origin _ _ s).trans ((releasesTags_setEntry_none i _).trans (releasesTags_popReply p _))
  · exact (admitted x _ _ s).trans ((sameSetup_popHead x _).releasesTags (by simp))
  · exact (admitted x mgmtClaimant q s).trans releasesTags_of_same
  · exact .refl s

theorem releasesTags_sendReply (out : Port) (s : State) : ReleasesTags s (sendReply out s) := by
  cases hq : (s.port out).replyQueue with
  | nil =>
    have idle : sendReply out s = s := by simp only [sendReply, hq]
    rw [idle]
    exact .refl s
  | cons q rest =>
    rw [sendReply_eq hq]
    refine ReleasesTags.trans ?_ (releasesTags_giveSlot out _)
    exact (releasesTags_modifyPort fun h => h).trans (releasesTags_modifyPort fun h => h)

theorem releasesTags_grantHead (out x : Port) (i : Fin 7) (r : Request) (s : State) :
    ReleasesTags s (grantHead out x i r s) :=
  (sameSetup_grantHead out x i r s).releasesTags (grantHead_track out x i r s)

end Sys2Proof.Machine
end

section
/-! CERTIFICATE. The laws of the Tracking Table, which every step keeps: no event brings a tag into use, and an Output Arbiter
gives an entry only to a tag that is not in use, for a head of a port that is UP (R89, R103). -/

namespace Sys2Proof.Machine

open Sys2Proof

/-! ### Link loss, resets and deferred actions -/

/-- The notice of a loss of `x` at an entry: if it blocks a tag afterwards, it blocked it before (R100 to R102). -/
theorem NoticeAt.blocked_before {x : Port} {i : Fin 64} {s t : State} (n : NoticeAt x i s t) {e : TrackEntry}
    (he : t.track[i] = some e) (hb : e.state.blocksTag = true) :
    ∃ f, s.track[i] = some f ∧ f.state.blocksTag = true ∧ f.origin = e.origin ∧ f.tag = e.tag := by
  cases n with
  | free _ => exact ⟨e, he, hb, rfl, rfl⟩
  | kept _ _ _ => exact ⟨e, he, hb, rfl, rfl⟩
  | orphaned f hf _ _ hs =>
    exact (releasesTags_restate hf (TrackState.blocksTag_of_active hs) .orphaned f.time).entry i e he hb
  | discarded f _ _ _ _ => rw [discarded_entry] at he; cases he
  | entombed f _ _ => exact (releasesTags_toTombstone i f s).entry i e he hb
  | answered f hf _ _ hs =>
    obtain ⟨b, hs⟩ := hs
    exact (releasesTags_placeSynth hf (TrackState.blocksTag_of_active hs) .linkLost).entry i e he hb

/-- After the loss of its own port no entry of an origin blocks a tag (R100, R102). -/
theorem NoticeAt.origin_ne {x : Port} {i : Fin 64} {s t : State} (n : NoticeAt x i s t) {e : TrackEntry}
    (he : t.track[i] = some e) (hb : e.state.blocksTag = true) : e.origin ≠ x := by
  intro ho
  have ended := (n.settled_self e he).1 ho
  cases hs : e.state with
  | active b => exact (ended b .timeout).1 hs
  | replyDue st => exact (ended false st).2 hs
  | orphaned => simp [hs, TrackState.blocksTag] at hb
  | tombstone => simp [hs, TrackState.blocksTag] at hb

theorem releasesTags_loseLink (x : Port) (cause : LossCause) (s : State) : ReleasesTags s (loseLink x cause s) := by
  constructor
  case entry =>
    intro i e he hb
    obtain ⟨u, hu, ht⟩ := loseLink_entry x cause s i
    exact hu ▸ (noticeAt_lossAtEntry x i u).blocked_before (ht ▸ he) hb
  case up =>
    intro i e he hb hup
    obtain ⟨u, -, ht⟩ := loseLink_entry x cause s i
    have hne := (noticeAt_lossAtEntry x i u).origin_ne (ht ▸ he) hb
    obtain ⟨mark, hp, -⟩ := loseLink_port_of_ne hne cause s
    rw [isUp_iff] at hup ⊢
    rw [hp]
    exact hup

theorem releasesTags_warmReset (s : State) : ReleasesTags s (warmReset s) := by
  obtain ⟨ports, -, h⟩ := warmReset_eq s
  refine releasesTags_of_free fun i => ?_
  rw [h, raiseFault_track, withdrawNote_track]
  exact Vector.getElem_replicate i.isLt

theorem releasesTags_moveNode (n : Node) (s : State) : ReleasesTags s (moveNode n s) := by
  unfold moveNode
  split
  · exact .refl s
  · exact (releasesTags_routeCheck _).after

/-- A port that is not UP leaves nothing by entering TRAINING. -/
theorem releasesTags_enterTraining {q : Port} {s : State} (h : (s.port q).link ≠ .up) :
    ReleasesTags s (enterTraining q s) := by
  rw [enterTraining_eq]
  exact releasesTags_modifyPort fun hu => absurd hu h

theorem releasesTags_enablePort (q : Port) (s : State) : ReleasesTags s (enablePort q s) := by
  unfold enablePort
  split
  · next h => exact releasesTags_enterTraining (by simp [h])
  · next h => exact releasesTags_enterTraining (by simp [h])
  · exact .refl s

theorem releasesTags_disablePort (q : Port) (s : State) : ReleasesTags s (disablePort q s).1 := by
  unfold disablePort
  split
  · exact .refl s
  · exact releasesTags_loseLink q _ s
  · next h => exact releasesTags_modifyPort (f := PortRec.turnedOff) fun hu => absurd hu h

theorem releasesTags_restartPort (q : Port) (s : State) : ReleasesTags s (restartPort q s).1 := by
  unfold restartPort
  split
  · next h => exact releasesTags_enterTraining (by simp [h])
  · exact releasesTags_loseLink q _ s
  · exact .refl s

theorem releasesTags_takeActions (work : List PendingAction) (s : State) : ReleasesTags s (takeActions work s) :=
  takeActions_keeps (ReleasesTags s) work s (.refl s) (fun u hu => hu.trans (releasesTags_warmReset u))
    (fun n u hu => hu.trans (releasesTags_moveNode n u)) (fun q u hu => hu.trans (releasesTags_disablePort q u))
    (fun q u hu => hu.trans (releasesTags_restartPort q u))

theorem releasesTags_linkLoss (x : Port) (cause : LossCause) (s : State) : ReleasesTags s (linkLoss x cause s) :=
  (releasesTags_loseLink x cause s).trans (releasesTags_takeActions _ _)

theorem releasesTags_releaseAction (x : Port) (s : State) : ReleasesTags s (releaseAction x s) := by
  unfold releaseAction
  split
  · exact .refl s
  · exact (releasesTags_takeActions _ _).after

/-! ### The links -/

theorem releasesTags_acceptHello (p : Port) (node : Node) (offers : LanePair) (f : Bool) (s : State) :
    ReleasesTags s (acceptHello p node offers f s) := by
  cases h : (s.port p).seen || f with
  | false => rw [acceptHello_unseen h]; exact releasesTags_modifyPort fun hu => hu
  | true =>
    rw [acceptHello_seen h]
    exact (releasesTags_modifyPort fun _ => rfl).trans (releasesTags_routeCheck _)

theorem releasesTags_firstOfTraining (p : Port) (n : Node) (a b : Byte) (f : Bool) (s : State) :
    ReleasesTags s (firstOfTraining p n a b f s) := by
  unfold firstOfTraining
  split
  · exact releasesTags_acceptHello p n _ f s
  · exact .refl s

theorem releasesTags_sendHello (p : Port) (s : State) : ReleasesTags s (sendHello p s) :=
  releasesTags_modifyPort fun h => by cases (s.port p).tx <;> exact h

theorem releasesTags_nextHello (p : Port) (s : State) : ReleasesTags s (nextHello p s) :=
  releasesTags_modifyPort fun h => by split <;> exact h

theorem releasesTags_takeCredits (p : Port) (c : Credits) (s : State) : ReleasesTags s (takeCredits p c s) :=
  releasesTags_modifyPort fun h => by cases (s.port p).offers <;> exact h

theorem releasesTags_receiveRequest (p : Port) (c : Credits) (r : Request) (s : State) :
    ReleasesTags s (receiveRequest p c r s) := by
  unfold receiveRequest
  dsimp only
  refine (releasesTags_takeCredits p c s).trans ?_
  split
  · exact releasesTags_modifyPort fun h => h
  · exact releasesTags_linkLoss p _ _

theorem releasesTags_receiveReply (p : Port) (c : Credits) (r : Reply) (s : State) :
    ReleasesTags s (receiveReply p c r s) := by
  unfold receiveReply
  dsimp only
  refine (releasesTags_takeCredits p c s).trans ?_
  split
  · exact releasesTags_modifyPort fun h => h
  · exact releasesTags_linkLoss p _ _

theorem releasesTags_noteLeft (p : Port) (s : State) : ReleasesTags s (noteLeft p s) := by
  unfold noteLeft
  split
  · exact .refl s
  · split
    · exact (releasesTags_routeCheck _).after
    · exact .refl s

theorem releasesTags_parcelGone (p : Port) (t : Transmission) (s : State) : ReleasesTags s (parcelGone p t s) := by
  unfold parcelGone
  dsimp only
  have free : ReleasesTags s (s.modifyPort p fun r => { r with tx := none }) := releasesTags_modifyPort fun h => h
  refine (free.trans (releasesTags_noteLeft p _)).trans (ReleasesTags.trans ?_ (releasesTags_nextHello p _))
  split
  · exact releasesTags_releaseAction p _
  · exact .refl _

theorem releasesTags_discardReply (p : Port) (k : FaultKind) (r : Reply) (s : State) :
    ReleasesTags s (discardReply p k r s) :=
  (releasesTags_raiseFault _ s).trans (releasesTags_popReply p _)

/-- A reply frees its entry, or waits in hand (R93, R94). -/
theorem releasesTags_judgeReply (p : Port) (r : Reply) (i : Fin 64) (s : State) :
    ReleasesTags s (judgeReply p r i s) := by
  unfold judgeReply
  split
  · exact releasesTags_discardReply p _ r s
  · next e he =>
    split
    · split
      · next hs =>
        unfold relayOrHold
        split
        · exact ((sameSetup_admitClaimant _ _ _ s).releasesTags (by simp)).trans
            ((releasesTags_setEntry_none i _).trans (releasesTags_popReply p _))
        · exact releasesTags_restate he (TrackState.blocksTag_of_active hs) (.active true) e.time
      · exact .refl s
      · exact (releasesTags_setEntry_none i s).trans (releasesTags_popReply p _)
      · exact releasesTags_discardReply p _ r s
      · exact releasesTags_discardReply p _ r s
    · exact releasesTags_discardReply p _ r s

/-! ### The timers -/

theorem releasesTags_beginAttempt (p : Port) (s : State) : ReleasesTags s (beginAttempt p s) :=
  releasesTags_modifyPort fun h => h

theorem releasesTags_countAttempt (p : Port) (s : State) : ReleasesTags s (countAttempt p s) :=
  releasesTags_modifyPort fun h => h

/-- A port in TRAINING ends its attempt, and is not UP when it is HALTED. -/
theorem releasesTags_endAttempt {p : Port} {s : State} (hl : (s.port p).link = .training) :
    ReleasesTags s (endAttempt p s) := by
  unfold endAttempt
  split
  · dsimp only
    refine (releasesTags_countAttempt p s).trans ?_
    split
    · exact releasesTags_beginAttempt p _
    · unfold haltPort loseManager
      have halted : ReleasesTags (countAttempt p s) (enterHalted p (countAttempt p s)) :=
        releasesTags_modifyPort fun hu => by simp [countAttempt, hl] at hu
      refine (halted.trans (releasesTags_raiseFault { kind := .linkHalted, port := some p } _)).trans ?_
      split
      · exact (releasesTags_raiseFault _ _).after
      · exact .refl _
  · exact releasesTags_beginAttempt p s

/-- A tick keeps all of an entry but its time (R92). -/
theorem tickEntry_fields (e : TrackEntry) :
    (tickEntry e).state = e.state ∧ (tickEntry e).origin = e.origin ∧ (tickEntry e).tag = e.tag := by
  unfold tickEntry
  split <;> exact ⟨rfl, rfl, rfl⟩

theorem releasesTags_tick (s : State) : ReleasesTags s (tick s) := by
  have ticked (i : Fin 64) : (tick s).track[i] = s.track[i].map tickEntry := by simp [tick]
  constructor
  case entry =>
    intro i e he hb
    rw [ticked, Option.map_eq_some_iff] at he
    obtain ⟨f, hf, rfl⟩ := he
    obtain ⟨hs, ho, ht⟩ := tickEntry_fields f
    exact ⟨f, hf, hs ▸ hb, ho.symm, ht.symm⟩
  case up =>
    intro i e _ _ hu
    rw [isUp_iff] at hu ⊢
    rw [tick_port]
    exact hu

/-! ### Directives -/

theorem releasesTags_breakRecord (cause : BreakCause) (r : Fin 4) (s : State) : ReleasesTags s (breakRecord cause r s) := by
  unfold breakRecord
  split
  · exact .refl s
  · exact ((releasesTags_raiseFault _ (setLock r none s)).trans (releasesTags_markHeads _ _)).after

theorem releasesTags_setFence (p : Port) (s : State) : ReleasesTags s (setFence p s) := by
  unfold setFence
  split
  · exact .refl s
  · refine ReleasesTags.trans (t := s.modifyPort p fun r => { r with fenced := true })
      (releasesTags_modifyPort fun h => h) (ReleasesTags.trans ?_ (releasesTags_markHeads _ _))
    exact breakHeldBy_keeps (ReleasesTags _) p .fence _ (.refl _) fun r u hu => hu.trans (releasesTags_breakRecord _ r u)

theorem releasesTags_putAlertNode (v : Option Node) (s : State) : ReleasesTags s (putAlertNode v s) := by
  unfold putAlertNode
  dsimp only
  split
  · exact releasesTags_of_same
  · split
    · exact releasesTags_of_same
    · exact (releasesTags_routeCheck _).after

theorem releasesTags_armAlert (s : State) : ReleasesTags s (armAlert s) := by
  unfold armAlert
  dsimp only
  split
  · exact releasesTags_of_same
  · exact ((sameSetup_raiseAlert _).releasesTags (raiseAlert_track _)).after

theorem releasesTags_writeNode (n : Node) (e : NodeEntry) (s : State) : ReleasesTags s (writeNode n e s) := by
  unfold writeNode
  split
  · exact .refl s
  · exact (releasesTags_routeCheck _).after

theorem releasesTags_commitTable (s : State) : ReleasesTags s (commitTable s).state := by
  unfold commitTable
  split
  · exact .refl s
  · split
    · exact .refl s
    · exact releasesTags_of_same

/-- No effect of a command brings a tag into use. -/
theorem DirectiveEffect.releasesTags {s : State} {effect : State → DirResult} (h : DirectiveEffect s effect) (u : State) :
    ReleasesTags u (effect u).state := by
  cases h with
  | read words => exact .refl u
  | deferred k => exact .refl u
  | enabled p => exact releasesTags_enablePort p u
  | fenced p => exact releasesTags_setFence p u
  | unfenced p => exact releasesTags_modifyPort (f := fun r => { r with fenced := false }) fun h => h
  | configured f => exact releasesTags_of_same
  | staged f => exact releasesTags_of_same
  | committed => exact releasesTags_commitTable u
  | lockBroken r => exact releasesTags_breakRecord .directive r u
  | nodeWritten n e _ _ => exact releasesTags_writeNode n e u
  | managerSet p _ => exact releasesTags_of_same
  | faultsPopped n => exact releasesTags_of_same
  | policySet p => exact releasesTags_of_same
  | alertNodeSet v => exact releasesTags_putAlertNode v u
  | alertArmed => exact releasesTags_armAlert u

theorem releasesTags_runCommand (c : Command) (d : Directive) (s : State) :
    ReleasesTags s (runCommand c c.checks d s).state := by
  unfold runCommand
  split
  · exact .refl s
  · split
    · exact .refl s
    · split
      · exact .refl s
      · next effect he =>
        refine ReleasesTags.trans ?_ ((c.checks_give _ _ _ he).releasesTags (claimManager c d s))
        unfold claimManager
        split
        · exact .refl s
        · exact releasesTags_of_same

theorem releasesTags_deliver (d : Directive) (r : DirResult) : ReleasesTags r.state (deliver d r) := by
  unfold deliver
  split
  · exact releasesTags_of_same
  · exact (releasesTags_takeActions _ _).after

/-- No event brings a tag into use before the router comes to rest. -/
theorem EventEffect.releasesTags {s t : State} (h : EventEffect s t) : ReleasesTags s t := by
  cases h with
  | helloDue p _ _ =>
    exact (releasesTags_modifyPort (f := fun r => { r with helloTimer := some Config.helloPeriod }) fun h => h).trans
      (releasesTags_sendHello p _)
  | attemptEnded p hl _ => exact releasesTags_endAttempt hl
  | helloAccepted p n a b f _ _ => exact releasesTags_acceptHello p n _ f s
  | peerRestarted p n a b _ => exact (releasesTags_linkLoss p _ s).trans (releasesTags_firstOfTraining p n a b _ _)
  | damaged p _ => exact releasesTags_linkLoss p _ s
  | requestReceived p c r _ => exact releasesTags_receiveRequest p c r s
  | replyReceived p c r _ => exact releasesTags_receiveReply p c r s
  | creditReceived p c _ => exact releasesTags_takeCredits p c s
  | unknownKindReceived p _ => exact releasesTags_raiseFault _ s
  | parcelLeft p t _ => exact releasesTags_parcelGone p t s
  | replyStray p r rest _ _ => exact releasesTags_discardReply p _ r s
  | replyJudged p r rest i _ _ => exact releasesTags_judgeReply p r i s
  | deadline i e he hs _ =>
    exact (releasesTags_raiseFault _ s).trans
      (releasesTags_placeSynth (by simpa using he) (TrackState.blocksTag_of_active hs) .timeout)
  | orphanDeadline i e _ _ _ => exact releasesTags_toTombstone i e s
  | tombstoneEnded i e _ _ _ => exact releasesTags_setEntry_none i s
  | holdEnded r l _ _ => exact releasesTags_breakRecord _ r s
  | executed c d _ _ => exact (releasesTags_runCommand c d s).trans (releasesTags_deliver d _)
  | executedUnknown d _ _ => exact releasesTags_deliver d (reply .badCommand [] s)

/-! ### Events as moves of the port records -/

theorem DirectiveEffect.moves {s : State} {effect : State → DirResult} (h : DirectiveEffect s effect) (u : State) :
    Moves u (effect u).state := by
  cases h with
  | enabled p => exact moves_enablePort p u
  | fenced p => exact moves_setFence p u
  | unfenced p => exact moves_modifyPort (f := fun r => { r with fenced := false }) (.fenced false)
  | committed =>
    exact moves_of_ports (commitTable_keepPorts u).2 fun p => by simp [State.port, (commitTable_keepPorts u).1]
  | lockBroken r => exact moves_breakRecord .directive r u
  | nodeWritten n e _ _ =>
    exact moves_of_ports (writeNode_keepPorts n e u).2 fun p => by
      simp [okDone, reply, State.port, (writeNode_keepPorts n e u).1]
  | alertNodeSet v =>
    exact moves_of_ports (putAlertNode_keepPorts v u).2 fun p => by
      simp [okDone, reply, State.port, (putAlertNode_keepPorts v u).1]
  | alertArmed =>
    exact moves_of_ports (armAlert_keepPorts u).2 fun p => by
      simp [okDone, reply, State.port, (armAlert_keepPorts u).1]
  | _ => exact moves_of_ports rfl fun _ => rfl

theorem Command.checks_move (c : Command) : c.checks.Move := fun args s effect he u =>
  (c.checks_give args s effect he).moves u

/-- Every event takes the port records through moves before the router comes to rest. -/
theorem EventEffect.moves {s t : State} (h : EventEffect s t) : Moves s t := by
  cases h with
  | helloDue p hl _ => exact moves_sendHello_expired hl
  | attemptEnded p hl _ => exact moves_endAttempt hl
  | helloAccepted p n a b f hl hg => exact moves_acceptHello n f hl hg
  | peerRestarted p n a b _ => exact (moves_linkLoss p _ s).trans (moves_firstOfTraining p n a b _ _)
  | damaged p _ => exact moves_linkLoss p _ s
  | requestReceived p c r hu => exact moves_receiveRequest c r hu
  | replyReceived p c r hu => exact moves_receiveReply c r hu
  | creditReceived p c hu => exact moves_takeCredits c hu
  | unknownKindReceived p _ => exact moves_raiseFault _ s
  | parcelLeft p t _ => exact moves_parcelGone p t s
  | replyStray p r rest _ _ => exact moves_discardReply p _ r s
  | replyJudged p r rest i _ _ => exact moves_judgeReply p r i s
  | deadline i e _ _ _ => exact (moves_raiseFault _ s).trans (moves_placeSynth i e _ _)
  | orphanDeadline i e _ _ _ => exact moves_toTombstone i e s
  | tombstoneEnded i e _ _ _ => exact moves_setEntry i none s
  | holdEnded r l _ _ => exact moves_breakRecord _ r s
  | executed c d _ _ => exact (moves_runCommand c d s c.checks_move).trans (moves_deliver d _)
  | executedUnknown d _ _ => exact moves_deliver d (reply .badCommand [] s)

theorem Moves.linkLaw {s t : State} (h : Moves s t) (hs : LinkLaw s) : LinkLaw t := fun p =>
  h.keeps (fun _ _ => linkGood_of_internalMove) (fun _ _ => linkGood_of_eventMove) (hs p)

theorem MovesInternally.linkLaw {s t : State} (h : MovesInternally s t) (hs : LinkLaw s) : LinkLaw t := fun p =>
  h.keeps (fun _ _ => linkGood_of_internalMove) (hs p)

/-! ### The laws within an event -/

/-- The laws of the Tracking Table are kept from `s` to `t`, and with them the link law that the second one needs. -/
structure KeepsTrackingLaws (s t : State) : Prop where
  tags : TagLaw s → TagLaw t
  links : LinkLaw s → LinkLaw t
  origins : LinkLaw s → OriginLaw s → OriginLaw t

theorem KeepsTrackingLaws.refl (s : State) : KeepsTrackingLaws s s := ⟨id, id, fun _ => id⟩

theorem KeepsTrackingLaws.trans {s t u : State} (h : KeepsTrackingLaws s t) (k : KeepsTrackingLaws t u) :
    KeepsTrackingLaws s u :=
  ⟨k.tags ∘ h.tags, k.links ∘ h.links, fun hl ho => k.origins (h.links hl) (h.origins hl ho)⟩

theorem ReleasesTags.keepsTrackingLaws {s t : State} (h : ReleasesTags s t) (hl : LinkLaw s → LinkLaw t) :
    KeepsTrackingLaws s t :=
  ⟨h.tagLaw, hl, fun _ => h.originLaw⟩

/-- A tag that is not in use comes into use, for an origin that has a request and so is UP (R8, R89, R103). -/
theorem keepsTrackingLaws_newEntry {j : Fin 64} {n : TrackEntry} {s : State} (hu : ¬ TagInUse s n.origin n.tag)
    (hr : (s.port n.origin).reqLane ≠ []) : KeepsTrackingLaws s (setEntry j (some n) s) := by
  have other {i : Fin 64} (hi : i ≠ j) {e : TrackEntry} (he : (setEntry j (some n) s).track[i] = some e) :
      s.track[i] = some e := setEntry_of_ne s (some n) hi ▸ he
  have new {e : TrackEntry} (he : (setEntry j (some n) s).track[j] = some e) : e = n :=
    (Option.some.inj ((setEntry_self s j (some n)).symm.trans he)).symm
  constructor
  case tags =>
    intro hs i k e f he hf hbe hbf ho ht
    by_cases hi : i = j
    · by_cases hk : k = j
      · rw [hi, hk]
      · subst hi
        obtain rfl := new he
        exact absurd ⟨k, f, other hk hf, ho.symm, ht.symm, hbf⟩ hu
    · by_cases hk : k = j
      · subst hk
        obtain rfl := new hf
        exact absurd ⟨i, e, other hi he, ho, ht, hbe⟩ hu
      · exact hs i k e f (other hi he) (other hk hf) hbe hbf ho ht
  case links => exact id
  case origins =>
    intro hl hs i e he hb
    by_cases hi : i = j
    · subst hi
      obtain rfl := new he
      have up : (s.port e.origin).link = .up := by
        by_contra h
        exact hr ((hl e.origin).1 h).1
      exact (isUp_iff _ _).2 up
    · exact hs i e (other hi he) hb

/-- An Output Arbiter gives an entry only by an allocation (R79, R80). -/
theorem keepsTrackingLaws_tryInput {out : Port} (i : Fin 7) {s : State} (h : transmitterReady (s.port out) = true) :
    KeepsTrackingLaws s (tryInput out i s).state := by
  unfold tryInput
  split
  · split
    · exact .refl s
    · next q _ =>
      refine ReleasesTags.keepsTrackingLaws ?_
        ((movesInternally_of_ports fun p => rfl).trans (movesInternally_beginGrant 6 q.note h)).linkLaw
      exact (sameSetup_grantNote out q s).releasesTags (grantNote_track out q s)
  · split
    · exact .refl s
    · next x _ _ q res ho =>
      have hx := Examinable.of_offeredAt ho
      have granted (r : Request) (u : State) (hp : ∀ p, u.port p = s.port p) :
          KeepsTrackingLaws u (grantHead out x i r u) :=
        (releasesTags_grantHead out x i r u).keepsTrackingLaws
          (movesInternally_grantHead i r (by rw [hp]; exact h) (by rw [hp]; exact hx.2)).linkLaw
      split
      · exact granted _ s fun _ => rfl
      · next k _ =>
        split
        · next j ha =>
          have hu := (allocate_eq_entry_iff.1 ha).1
          exact (keepsTrackingLaws_newEntry (n := newEntry s x out q res k) hu hx.1).trans (granted _ _ fun _ => rfl)
        · exact (releasesTags_offerAnswer x _ _ s).keepsTrackingLaws (movesInternally_offerAnswer _ _ hx).linkLaw
        · exact .refl s

theorem keepsTrackingLaws_tryInputs {out : Port} (order : List (Fin 7)) {s : State}
    (h : transmitterReady (s.port out) = true) : KeepsTrackingLaws s (tryInputs out order s) := by
  induction order generalizing s with
  | nil => exact .refl s
  | cons i rest ih =>
    unfold tryInputs
    split
    · have first := keepsTrackingLaws_tryInput i h
      split
      · next t e => rwa [e] at first
      · next t e =>
        rw [e] at first
        refine first.trans (ih ?_)
        obtain rfl | ⟨x, q, res, -, rfl⟩ := tryInput_passed e
        · exact h
        · exact (offerAnswer_transmitter x out _ _ s).trans h
    · exact ih h

theorem keepsTrackingLaws_chooseNext {out : Port} {s : State} (h : transmitterReady (s.port out) = true) :
    KeepsTrackingLaws s (chooseNext out s) := by
  unfold chooseNext
  split
  · next hr => exact (releasesTags_sendReply out s).keepsTrackingLaws (movesInternally_sendReply h hr).linkLaw
  · split
    · exact keepsTrackingLaws_tryInputs _ h
    · exact (releasesTags_modifyPort fun hu => hu).keepsTrackingLaws (movesInternally_sendCredit h).linkLaw

theorem keepsTrackingLaws_doInternal {a : Internal} {s : State} (k : Nat) (h : a ∈ internalActions s) :
    KeepsTrackingLaws s (doInternal a { s with freeUsed := k }) := by
  have links := (movesInternally_doInternal k h).linkLaw
  have kept (hk : (doInternal a { s with freeUsed := k }).track = s.track) :
      KeepsTrackingLaws s (doInternal a { s with freeUsed := k }) :=
    (((sameSetup_freeUsed s k).trans (sameSetup_doInternal a _)).releasesTags hk).keepsTrackingLaws links
  cases a with
  | examine x => exact kept (examineHead_track x _)
  | reexamine x => exact kept (reexamineHead_track x _)
  | placeReply => exact kept (placeReply_track _)
  | grantM => exact kept (grantM_track _)
  | choose x =>
    have ready := ((canSend_iff s x).1 (choose_mem_internalActions.1 h).2).1
    have counted : KeepsTrackingLaws s { s with freeUsed := k } := ⟨id, id, fun _ => id⟩
    exact counted.trans (keepsTrackingLaws_chooseNext (s := { s with freeUsed := k }) ready)

theorem keepsTrackingLaws_settle (s : State) : KeepsTrackingLaws s (settle s) :=
  settle_keeps (KeepsTrackingLaws s) s (.refl s) fun _ _ k hu ha => hu.trans (keepsTrackingLaws_doInternal k ha)

/-! ### Every step -/

/-- Whatever a command comes to keeps both laws: an edge of RST# leaves no entry, a tick keeps what an entry blocks, and an
event keeps them before and during the coming to rest. -/
theorem CommandEffect.keepsTrackingLaws {s t : State} (h : CommandEffect s t) :
    (TagLaw s → TagLaw t) ∧ (LinkLaw s → OriginLaw s → OriginLaw t) := by
  have released (k : ReleasesTags s t) : (TagLaw s → TagLaw t) ∧ (LinkLaw s → OriginLaw s → OriginLaw t) :=
    ⟨k.tagLaw, fun _ => k.originLaw⟩
  cases h with
  | none => exact released (.refl s)
  | resetAsserted _ => exact released (releasesTags_of_free fun i => Vector.getElem_replicate i.isLt)
  | resetReleased n m _ => exact released (releasesTags_of_free fun i => State.cold_track n m i)
  | ticked _ => exact released (releasesTags_tick s)
  | event u _ hu =>
    have k := (hu.releasesTags.keepsTrackingLaws hu.moves.linkLaw).trans (keepsTrackingLaws_settle u)
    exact ⟨k.tags, k.origins⟩

/-- Settles O57: whatever the step's command comes to keeps both laws. -/
theorem everyStepKeepsTheTrackingLaws : Obligations.EveryStepKeepsTheTrackingLaws := by
  intro s t h
  obtain ⟨queue, heffect⟩ := step_effect h
  exact heffect.keepsTrackingLaws

end Sys2Proof.Machine
end

section
/-! CERTIFICATE. The expiries of the Tracking Table and the Lock Table, and the reply at the head of a reply lane (R93, R94, R96,
R97, R99, R114, R115). -/

namespace Sys2Proof.Machine

open Sys2Proof

/-! ### Expiries -/

theorem exec_deadlineExpiry {i : Fin 64} {e : TrackEntry} {s : State} (hl : s.resetLow = false)
    (he : s.track[i] = some e) (hs : e.state = .active false) (ht : e.time = 0) :
    exec (.deadlineExpiry i) s = .next (settle (placeSynth i e .timeout (raiseFault (timeoutReport i e) s))) := by
  simp only [exec, execDeadlineExpiry, whenRunning_high hl, he, hs, ht, and_self, if_true]

theorem exec_orphanDeadlineExpiry {i : Fin 64} {e : TrackEntry} {s : State} (hl : s.resetLow = false)
    (he : s.track[i] = some e) (hs : e.state = .orphaned) (ht : e.time = 0) :
    exec (.orphanDeadlineExpiry i) s = .next (settle (toTombstone i e s)) := by
  simp only [exec, execOrphanDeadlineExpiry, whenRunning_high hl, he, hs, ht, and_self, if_true]

theorem exec_tombstoneExpiry {i : Fin 64} {e : TrackEntry} {s : State} (hl : s.resetLow = false)
    (he : s.track[i] = some e) (hs : e.state = .tombstone) (ht : e.time = 0) :
    exec (.tombstoneExpiry i) s = .next (settle (setEntry i none s)) := by
  simp only [exec, execTombstoneExpiry, whenRunning_high hl, he, hs, ht, and_self, if_true]

theorem exec_lockHoldExpiry {r : Fin 4} {l : Lock} {s : State} (hl : s.resetLow = false) (hr : s.locks[r] = some l)
    (ht : l.hold = 0) : exec (.lockHoldExpiry r) s = .next (settle (breakRecord .expired r s)) := by
  simp only [exec, execLockHoldExpiry, whenRunning_high hl, hr, ht, if_true]

theorem breakRecord_held {cause : BreakCause} {r : Fin 4} {l : Lock} {s : State} (h : s.locks[r] = some l) :
    breakRecord cause r s = markForLocks (raiseFault (brokenReport l cause) (setLock r none s)) := by
  simp only [breakRecord, h]

/-- Settles O9: a deadline by the room in the origin's queue, and each other expiry by its one effect. -/
theorem expiriesEndTheirOwners : Obligations.ExpiriesEndTheirOwners := by
  refine ⟨fun i e s hl he hs ht hu => ⟨_, rfl, fun hq => ?_, fun hq => ?_⟩, fun i e s hl he hs ht => ?_,
    fun i e s hl he hs ht => exec_tombstoneExpiry hl he hs ht, fun r l s hl hr ht => ?_⟩
  · rw [exec_deadlineExpiry hl he hs ht,
      placeSynth_up _ (by rwa [raiseFault_port]) (by rwa [raiseFault_port, ← isUp_iff]), toTombstone, enqueueReply,
      State.modifyPort_settings, raiseFault_settings]
    rfl
  · rw [exec_deadlineExpiry hl he hs ht, placeSynth_full _ (by rwa [raiseFault_port])]
    rfl
  · exact exec_orphanDeadlineExpiry hl he hs ht
  · rw [exec_lockHoldExpiry hl hr ht, breakRecord_held hr]
    rfl

/-! ### The reply at the head of a lane -/

theorem entryIndex_eq_none_iff {t : Tag} : entryIndex t = none ↔ 63 < t.toNat := by
  unfold entryIndex
  split <;> simp <;> omega

theorem exec_replyMatch_none {p : Port} {r : Reply} {rest : List Reply} {s : State} (hl : s.resetLow = false)
    (hr : (s.port p).repLane = r :: rest) (ht : 63 < r.tag.toNat) :
    exec (.replyMatch p) s = .next (settle (discardReply p .strayReply r s)) := by
  simp only [exec, execReplyMatch, whenRunning_high hl, hr, entryIndex_eq_none_iff.2 ht]

theorem exec_replyMatch_some {p : Port} {r : Reply} {rest : List Reply} {i : Fin 64} {s : State} (hl : s.resetLow = false)
    (hr : (s.port p).repLane = r :: rest) (ht : r.tag.toNat = i.val) :
    exec (.replyMatch p) s = .next (settle (judgeReply p r i s)) := by
  simp only [exec, execReplyMatch, whenRunning_high hl, hr, entryIndex_eq_some_iff.2 ht]

section
variable {p : Port} {r : Reply} {i : Fin 64} {e : TrackEntry} {s : State}

/-- A FREE entry expects no reply (R93). -/
theorem judgeReply_free (h : s.track[i] = none) : judgeReply p r i s = discardReply p .strayReply r s := by
  simp only [judgeReply, h]

/-- An entry expects no reply from a port that is not its destination (R93). -/
theorem judgeReply_elsewhere (h : s.track[i] = some e) (hd : e.dest ≠ p) :
    judgeReply p r i s = discardReply p .strayReply r s := by
  simp only [judgeReply, h, if_neg hd]

/-- An entry that has been answered takes no more replies (R93). -/
theorem judgeReply_answered (h : s.track[i] = some e) (hd : e.dest = p)
    (hs : e.state = .tombstone ∨ ∃ st, e.state = .replyDue st) :
    judgeReply p r i s = discardReply p .lateReply r s := by
  obtain hs | ⟨st, hs⟩ := hs <;> simp only [judgeReply, h, if_pos hd, hs]

/-- The reply of an ORPHANED entry is absorbed (R93). -/
theorem judgeReply_orphaned (h : s.track[i] = some e) (hd : e.dest = p) (hs : e.state = .orphaned) :
    judgeReply p r i s = popReply p (setEntry i none s) := by
  simp only [judgeReply, h, if_pos hd, hs]

/-- The reply of an ACTIVE entry is relayed, or waits in hand (R94). -/
theorem judgeReply_active (h : s.track[i] = some e) (hd : e.dest = p) (hs : e.state = .active false) :
    judgeReply p r i s = relayOrHold p r i e s := by
  simp only [judgeReply, h, if_pos hd, hs]

/-- A reply in hand is not taken again (log entry 3). -/
theorem judgeReply_inHand (h : s.track[i] = some e) (hd : e.dest = p) (hs : e.state = .active true) :
    judgeReply p r i s = s := by
  simp only [judgeReply, h, if_pos hd, hs]

theorem relayOrHold_room (h : queueHasRoom s e.origin = true) : relayOrHold p r i e s = relayReply p r i e s := if_pos h

theorem relayOrHold_full (h : 8 ≤ (s.port e.origin).replyQueue.length) :
    relayOrHold p r i e s = setEntry i (some { e with state := .active true }) s := by
  refine if_neg fun hr => ?_
  have := ((queueHasRoom_iff s e.origin).1 hr).2
  omega

end

/-- Settles O19: the rows of the table of R93, by the entry that the tag names. -/
theorem repliesAreMatchedByTagAndPort : Obligations.RepliesAreMatchedByTagAndPort := by
  intro p r rest s hl hr
  refine ⟨exec_replyMatch_none hl hr, fun i hi => ?_⟩
  rw [exec_replyMatch_some hl hr hi]
  refine ⟨fun he => ?_, fun e he => ⟨fun hd => ?_, fun hd hs => ?_, fun hd hs => ?_, fun hd hs hu hq => ?_,
    fun hd hs hq => ?_, fun hd hs => ?_⟩⟩
  · rw [judgeReply_free he]
    rfl
  · rw [judgeReply_elsewhere he hd]
    rfl
  · rw [judgeReply_answered he hd hs]
    rfl
  · rw [judgeReply_orphaned he hd hs]
  · rw [judgeReply_active he hd hs, relayOrHold_room ((queueHasRoom_iff s _).2 ⟨(isUp_iff s _).1 hu, hq⟩)]
    rfl
  · rw [judgeReply_active he hd hs, relayOrHold_full hq]
  · rw [judgeReply_inHand he hd hs]

end Sys2Proof.Machine
end

end

section
-- One thread for all theorems: a thread for each takes a stack of its own, and there is no room for them all.
set_option Elab.async false

section
/-! CERTIFICATE. The Lock Table: its decisions on a CLAIM and a RELEASE (R108, R111), and the directives BREAK_LOCK, NODE_SET and
SET_MANAGER (R118, R124, R143). -/

namespace Sys2Proof.Machine

open Sys2Proof

/-! ### The records that a decision looks for -/

/-- The record that holds window `i` for port `x` (R108, R111). -/
def recordOf (x : Port) (i : Fin 48) (s : State) : Option (Fin 4) := lockIndices.find? fun r => heldBy x i s.locks[r]

/-- The lowest-numbered FREE record (R108). -/
def freeRecord (s : State) : Option (Fin 4) := lockIndices.find? fun r => s.locks[r].isNone

theorem lockIndices_eq : lockIndices = List.finRange 4 := by decide

theorem heldBy_iff (x : Port) (i : Fin 48) (l : Option Lock) :
    heldBy x i l = true ↔ ∃ k, l = some k ∧ k.window = i ∧ k.holder = x := by
  cases l <;> simp [heldBy]

theorem recordOf_eq_none_iff {x : Port} {i : Fin 48} {s : State} :
    recordOf x i s = none ↔ ∀ (r : Fin 4) (l : Lock), s.locks[r] = some l → l.window = i → l.holder ≠ x := by
  rw [recordOf, lockIndices_eq, ← Fin.find?_eq_find?_finRange, Fin.find?_eq_none_iff]
  refine forall_congr' fun r => ?_
  rw [Bool.eq_false_iff, ne_eq, heldBy_iff]
  push Not
  exact Iff.rfl

theorem holds_of_recordOf {x : Port} {i : Fin 48} {s : State} {r : Fin 4} (h : recordOf x i s = some r) :
    ∃ l, s.locks[r] = some l ∧ l.window = i ∧ l.holder = x :=
  (heldBy_iff x i _).1 (List.find?_some (p := fun r => heldBy x i s.locks[r]) h)

/-- Under the lock law the record of a holder is the one record of its window (R105). -/
theorem recordOf_eq_some {x : Port} {i : Fin 48} {s : State} (hs : LockLaw s) {r : Fin 4} {l : Lock}
    (hl : s.locks[r] = some l) (hw : l.window = i) (hx : l.holder = x) : recordOf x i s = some r := by
  cases h : recordOf x i s with
  | none => exact absurd hx (recordOf_eq_none_iff.1 h r l hl hw)
  | some q =>
    obtain ⟨k, hk, hkw, -⟩ := holds_of_recordOf h
    rw [hs.1 q r k l hk hl (hkw.trans hw.symm)]

theorem freeRecord_eq_some_iff {s : State} {r : Fin 4} :
    freeRecord s = some r ↔ s.locks[r] = none ∧ ∀ q : Fin 4, q < r → s.locks[q] ≠ none := by
  rw [freeRecord, lockIndices_eq, ← Fin.find?_eq_find?_finRange, Fin.find?_eq_some_iff]
  simp [← Option.isSome_iff_ne_none]

theorem freeRecord_eq_none_iff {s : State} : freeRecord s = none ↔ ∀ r : Fin 4, s.locks[r] ≠ none := by
  rw [freeRecord, lockIndices_eq, ← Fin.find?_eq_find?_finRange, Fin.find?_eq_none_iff]
  simp [← Option.isSome_iff_ne_none]

/-! ### The decisions -/

section
variable {x : Port} {i : Fin 48} {r : Fin 4} {s : State}

/-- The lock that a CLAIM from `x` for window `i` takes or renews now (R108). -/
def claimedLock (x : Port) (i : Fin 48) (s : State) : Lock := ⟨i, x, s.settings.holdLimit⟩

theorem decideClaim_renews (h : recordOf x i s = some r) :
    decideClaim x i s = (.ok, setLock r (some (claimedLock x i s)) s) := by
  unfold decideClaim
  rw [show lockIndices.find? (fun r => heldBy x i s.locks[r]) = some r from h]
  rfl

theorem decideClaim_refuses (h : recordOf x i s = none)
    (ho : ∃ (q : Fin 4) (l : Lock), s.locks[q] = some l ∧ l.window = i ∧ l.holder ≠ x) :
    decideClaim x i s = (.held, s) := by
  unfold decideClaim
  rw [show lockIndices.find? (fun r => heldBy x i s.locks[r]) = none from h]
  exact if_pos ((any_heldByOther_iff x i s).2 ho)

/-- A window that no record holds is given the lowest-numbered FREE record, if there is one (R108). -/
theorem decideClaim_unheld (h : ∀ (q : Fin 4) (l : Lock), s.locks[q] = some l → l.window ≠ i) :
    decideClaim x i s = match freeRecord s with
      | some r => (.ok, markForLocks (setLock r (some (claimedLock x i s)) s))
      | none => (.noLock, s) := by
  have hn : recordOf x i s = none := recordOf_eq_none_iff.2 fun q l hl hw => absurd hw (h q l hl)
  unfold decideClaim
  rw [show lockIndices.find? (fun r => heldBy x i s.locks[r]) = none from hn]
  refine (if_neg fun ho => ?_).trans rfl
  obtain ⟨q, l, hl, hw, -⟩ := (any_heldByOther_iff x i s).1 ho
  exact h q l hl hw

theorem decideRelease_frees (h : recordOf x i s = some r) :
    decideRelease x i s = (.ok, markForLocks (setLock r none s)) := by
  unfold decideRelease
  rw [show lockIndices.find? (fun r => heldBy x i s.locks[r]) = some r from h]

theorem decideRelease_refuses (h : recordOf x i s = none) : decideRelease x i s = (.notHolder, s) := by
  unfold decideRelease
  rw [show lockIndices.find? (fun r => heldBy x i s.locks[r]) = none from h]

end

/-- Settles O28: by the record that holds the window for the claimant, for another port, or for nobody. -/
theorem lockTableDecidesClaimsAndReleases : Obligations.LockTableDecidesClaimsAndReleases := by
  intro x i s hs
  refine ⟨fun r l hl hw hx => ?_, fun r l hl hw hx => ?_, fun hn => ⟨?_, fun r hr hlow => ?_, fun hfull => ?_⟩⟩
  · have hr := recordOf_eq_some hs hl hw hx
    exact ⟨decideClaim_renews hr, decideRelease_frees hr⟩
  · have hnone : recordOf x i s = none := recordOf_eq_none_iff.2 fun q k hk hkw hkx => by
      obtain rfl := hs.1 q r k l hk hl (hkw.trans hw.symm)
      obtain rfl := Option.some.inj (hk.symm.trans hl)
      exact hx hkx
    exact ⟨decideClaim_refuses hnone ⟨r, l, hl, hw, hx⟩, decideRelease_refuses hnone⟩
  · exact decideRelease_refuses (recordOf_eq_none_iff.2 fun q l hl hw => absurd hw (hn q l hl))
  · rw [decideClaim_unheld hn, freeRecord_eq_some_iff.2 ⟨hr, hlow⟩]
    rfl
  · rw [decideClaim_unheld hn, freeRecord_eq_none_iff.2 hfull]

/-! ### BREAK_LOCK, NODE_SET and SET_MANAGER -/

theorem breakRecord_free {cause : BreakCause} {r : Fin 4} {s : State} (h : s.locks[r] = none) :
    breakRecord cause r s = s := by
  simp only [breakRecord, h]

theorem breakLockChecks_some {w : Word} {r : Fin 4} (s : State) (hw : w.toNat = r.val) :
    breakLockChecks [w] s = some fun u => okDone (breakRecord .directive r u) := by
  simp [breakLockChecks, hw]

theorem exec_breakLock {w : Word} {r : Fin 4} {d : Directive} {s : State} (h : Accepted .breakLock d s)
    (ha : d.args = [w]) (hw : w.toNat = r.val) :
    exec .breakLock s = .next (settle (withReply d .ok [] (breakRecord .directive r (claimedBy d s)))) :=
  executeCommand_done h rfl (ha ▸ breakLockChecks_some s hw)

theorem nodeValue_eq_some {v : Word} {e : NodeEntry}
    (h : v = 0xFFFFFFFF#32 ∧ e = .unreachable ∨ ∃ p : Port, v.toNat = p.val ∧ e = .port p) : nodeValue v = some e := by
  obtain ⟨rfl, rfl⟩ | ⟨p, hp, rfl⟩ := h
  · rfl
  · have hne : v ≠ noneWord := by
      rintro rfl
      have hlt := p.isLt
      rw [← hp] at hlt
      exact absurd hlt (by decide)
    rw [nodeValue, if_neg hne, portOfNat_val hp]
    rfl

theorem nodeSetChecks_some {w v : Word} {n : Node} {e : NodeEntry} {s : State} (hw : w.toNat = n.val)
    (hv : nodeValue v = some e) (hn : n ≠ s.node) :
    nodeSetChecks [w, v] s = some fun u => okDone (writeNode n e u) := by
  simp [nodeSetChecks, nodeOfNat, hw, hv, hn]

theorem setManagerChecks_some {w : Word} {p : Port} {s : State} (hw : w.toNat = p.val) (hp : (s.port p).link ≠ .halted) :
    setManagerChecks [w] s = some fun u => okDone { u with manager := some p } := by
  simp [setManagerChecks, portOfNat_val hw, hp]

/-- Settles O47: each directive by its one effect, on a record that is HELD or FREE and an entry that changes or does not. -/
theorem lockNodeAndManagerDirectives : Obligations.LockNodeAndManagerDirectives := by
  refine ⟨fun w r d s h ha hw => ⟨fun hr => ?_, fun l hl => ?_⟩, fun w v n e d s h ha hw hn hv => ?_,
    fun w p d s h ha hw hp => ?_⟩
  · rw [exec_breakLock h ha hw, breakRecord_free (s := claimedBy d s) hr]
  · rw [exec_breakLock h ha hw, breakRecord_held (s := claimedBy d s) hl]
    rfl
  · have he : exec .nodeSet s = .next (settle (withReply d .ok [] (writeNode n e (claimedBy d s)))) :=
      executeCommand_done h rfl (ha ▸ nodeSetChecks_some hw (nodeValue_eq_some hv) hn)
    rw [he, writeNode]
    exact ⟨fun hsame => by rw [if_pos (by exact hsame)], fun hchange => by rw [if_neg (by exact hchange)]; rfl⟩
  · exact executeCommand_done (effect := fun u => { u with manager := some p }) h rfl
      (ha ▸ setManagerChecks_some hw hp)

end Sys2Proof.Machine
end

section
/-! SUPPORT. What an event does to the locks that are held: examinations of path-lock heads alone take records, and every other
block can only free them, or change a port that holds none (R105, R108, R115). -/

namespace Sys2Proof.Machine

open Sys2Proof

/-! ### Internal actions that leave the Lock Table -/

@[simp] theorem setHead_locks (x : Port) (st : HeadState) (s : State) : (setHead x st s).locks = s.locks := rfl

@[simp] theorem dropWithFault_locks (x : Port) (r : FaultReport) (s : State) :
    (dropWithFault x r s).locks = s.locks := by
  simp [dropWithFault]

@[simp] theorem refuse_locks (x : Port) (res : Option Resolution) (h : Request) (st : Status) (payload : List Word)
    (s : State) : (refuse x res h st payload s).locks = s.locks := by
  simp [refuse]

@[simp] theorem stopHead_locks (x : Port) (res : Option Resolution) (h : Request) (st : Status) (r : FaultReport)
    (s : State) : (stopHead x res h st r s).locks = s.locks := by
  unfold stopHead; split <;> simp

@[simp] theorem stopByFence_locks (x : Port) (res : Option Resolution) (h : Request) (s : State) :
    (stopByFence x res h s).locks = s.locks := by
  unfold stopByFence; split <;> simp [countFencedDrop]

@[simp] theorem stopMalformed_locks (x : Port) (h : Request) (m : Malformation) (s : State) :
    (stopMalformed x h m s).locks = s.locks := by
  unfold stopMalformed; split <;> simp

@[simp] theorem lockOrOffer_locks (x : Port) (res : Resolution) (s : State) :
    (lockOrOffer x res s).locks = s.locks := by
  unfold lockOrOffer; split <;> simp

@[simp] theorem outputChecks_locks (x : Port) (h : Request) (res : Resolution) (s : State) :
    (outputChecks x h res s).locks = s.locks := by
  unfold outputChecks; (repeat' split) <;> simp

@[simp] theorem stopByHopLimit_locks (x : Port) (h : Request) (s : State) : (stopByHopLimit x h s).locks = s.locks := by
  unfold stopByHopLimit; split <;> simp

@[simp] theorem resolveForward_locks (x : Port) (h : Request) (s : State) : (resolveForward x h s).locks = s.locks := by
  unfold resolveForward; dsimp only; split <;> simp

@[simp] theorem resolveNode_locks (x : Port) (h : Request) (s : State) : (resolveNode x h s).locks = s.locks := by
  unfold resolveNode; (repeat' split) <;> simp

@[simp] theorem recheckHeld_locks (x : Port) (h : Request) (res : Resolution) (s : State) :
    (recheckHeld x h res s).locks = s.locks := by
  unfold recheckHeld; split <;> simp

/-- A later examination takes and frees no lock: the answer of a path-lock head is already built (R66). -/
@[simp] theorem reexamineHead_locks (x : Port) (s : State) : (reexamineHead x s).locks = s.locks := by
  unfold reexamineHead; dsimp only; split <;> simp

@[simp] theorem placeReply_locks (s : State) : (placeReply s).locks = s.locks := by
  unfold placeReply; split <;> simp

@[simp] theorem grantM_locks (s : State) : (grantM s).locks = s.locks := by
  unfold grantM; (repeat' split) <;> simp

@[simp] theorem giveSlot_locks (x : Port) (s : State) : (giveSlot x s).locks = s.locks := by
  obtain ⟨i, e, st, -, -, -, h⟩ | ⟨p, r, i, e, -, -, h⟩ | ⟨res, a, -, h⟩ | ⟨q, -, h⟩ | h := giveSlot_cases x s <;>
    simp [h, toTombstone, relayReply]

@[simp] theorem sendReply_locks (out : Port) (s : State) : (sendReply out s).locks = s.locks := by
  unfold sendReply; split <;> simp

@[simp] theorem grantHead_locks (out x : Port) (i : Fin 7) (r : Request) (s : State) :
    (grantHead out x i r s).locks = s.locks := rfl

@[simp] theorem grantNote_locks (out : Port) (q : QueuedNote) (s : State) : (grantNote out q s).locks = s.locks := rfl

@[simp] theorem tryInput_locks (out : Port) (i : Fin 7) (s : State) : (tryInput out i s).state.locks = s.locks := by
  unfold tryInput; (repeat' split) <;> simp [GrantResult.state]

@[simp] theorem tryInputs_locks (out : Port) (order : List (Fin 7)) (s : State) :
    (tryInputs out order s).locks = s.locks := by
  induction order generalizing s with
  | nil => rfl
  | cons i rest ih =>
    have first := tryInput_locks out i s
    unfold tryInputs
    split
    · split
      · next t e => rwa [e] at first
      · next t e => rw [e] at first; exact (ih t).trans first
    · exact ih s

@[simp] theorem chooseNext_locks (out : Port) (s : State) : (chooseNext out s).locks = s.locks := by
  unfold chooseNext; (repeat' split) <;> simp [sendCredit]

/-! ### Locks that are given up -/

/-- A port that may hold locks: UP and not fenced (R105). -/
def PortRec.MayHold (r : PortRec) : Prop := r.link = .up ∧ r.fenced = false

/-- From `s` to `t` no lock is taken: what a record holds in `t` it held in `s`, for a holder that still may hold locks if it
might then. The hold time may run. -/
structure ReleasesLocks (s t : State) : Prop where
  lock : ∀ (r : Fin 4) (l : Lock), t.locks[r] = some l →
    ∃ k, s.locks[r] = some k ∧ k.window = l.window ∧ k.holder = l.holder
  holder : ∀ (r : Fin 4) (l : Lock), t.locks[r] = some l → (s.port l.holder).MayHold → (t.port l.holder).MayHold

theorem ReleasesLocks.refl (s : State) : ReleasesLocks s s := ⟨fun _ l hl => ⟨l, hl, rfl, rfl⟩, fun _ _ _ h => h⟩

theorem ReleasesLocks.trans {s t u : State} (h : ReleasesLocks s t) (k : ReleasesLocks t u) : ReleasesLocks s u := by
  constructor
  case lock =>
    intro r l hl
    obtain ⟨m, hm, hmw, hmh⟩ := k.lock r l hl
    obtain ⟨n, hn, hnw, hnh⟩ := h.lock r m hm
    exact ⟨n, hn, hnw.trans hmw, hnh.trans hmh⟩
  case holder =>
    intro r l hl hs
    obtain ⟨m, hm, -, hmh⟩ := k.lock r l hl
    exact k.holder r l hl (hmh ▸ h.holder r m hm (hmh ▸ hs))

/-- Giving up locks keeps the law of those that are left (R105). -/
theorem ReleasesLocks.lockLaw {s t : State} (h : ReleasesLocks s t) (hs : LockLaw s) : LockLaw t := by
  obtain ⟨once, sound⟩ := hs
  constructor
  · intro r q l k hl hk hw
    obtain ⟨l', hl', hlw, -⟩ := h.lock r l hl
    obtain ⟨k', hk', hkw, -⟩ := h.lock q k hk
    exact once r q l' k' hl' hk' (by rw [hlw, hkw, hw])
  · intro r l hl
    obtain ⟨k, hk, -, hh⟩ := h.lock r l hl
    exact h.holder r l hl (hh ▸ sound r k hk)

/-! ### Changes of other blocks, of one port, and of one record -/

/-- The table is the same, and every port that might hold locks still may. -/
theorem releasesLocks_of_same {s t : State} (hl : t.locks = s.locks := by rfl)
    (hp : ∀ p, (s.port p).MayHold → (t.port p).MayHold := by exact fun _ h => h) : ReleasesLocks s t :=
  ⟨fun _ l h => ⟨l, hl ▸ h, rfl, rfl⟩, fun _ _ _ h => hp _ h⟩

/-- An empty table has no lock. -/
theorem releasesLocks_of_free {s t : State} (h : ∀ r : Fin 4, t.locks[r] = none) : ReleasesLocks s t :=
  ⟨fun r _ hl => by simp [h r] at hl, fun r _ hl => by simp [h r] at hl⟩

/-- All locks of `x` are freed, and every other port that might hold locks still may (R115 to R117). -/
theorem LocksFreed.releasesLocks {x : Port} {s t : State} (h : LocksFreed x s t)
    (hp : ∀ q, q ≠ x → (s.port q).MayHold → (t.port q).MayHold) : ReleasesLocks s t := by
  have kept {r : Fin 4} {l : Lock} (hl : t.locks[r] = some l) : s.locks[r] = some l ∧ l.holder ≠ x := by
    by_cases hx : ∃ k, s.locks[r] = some k ∧ k.holder = x
    · rw [(h r).1 hx] at hl
      cases hl
    · have hs : s.locks[r] = some l := by rw [← (h r).2 fun k hk hkx => hx ⟨k, hk, hkx⟩, hl]
      exact ⟨hs, fun hlx => hx ⟨l, hs, hlx⟩⟩
  exact ⟨fun r l hl => ⟨l, (kept hl).1, rfl, rfl⟩, fun r l hl => hp _ (kept hl).2⟩

theorem SameSetup.mayHold {s t : State} (h : SameSetup s t) (p : Port) (hp : (s.port p).MayHold) : (t.port p).MayHold := by
  obtain ⟨-, -, -, -, -, -, -, -, -, -, setup⟩ := h
  obtain ⟨hl, -, -, -, -, -, hf, -, -⟩ := setup p
  exact ⟨hl.trans hp.1, hf.trans hp.2⟩

theorem SameSetup.releasesLocks {s t : State} (h : SameSetup s t) (hl : t.locks = s.locks) : ReleasesLocks s t :=
  releasesLocks_of_same hl h.mayHold

/-- A change of other blocks before. -/
theorem ReleasesLocks.after {s u t : State} (h : ReleasesLocks u t) (hl : u.locks = s.locks := by rfl)
    (hp : u.ports = s.ports := by rfl) : ReleasesLocks s t :=
  (releasesLocks_of_same hl fun p hm => by simpa [State.port, hp] using hm).trans h

theorem releasesLocks_modifyPort {p : Port} {f : PortRec → PortRec} {s : State}
    (h : (s.port p).MayHold → (f (s.port p)).MayHold) : ReleasesLocks s (s.modifyPort p f) := by
  refine releasesLocks_of_same rfl fun q hq => ?_
  by_cases e : q = p
  · subst e
    rw [State.port_modifyPort_self]
    exact h hq
  · rwa [State.port_modifyPort_of_ne s f e]

/-- A port that is not UP holds nothing that a change of its record could end. -/
theorem releasesLocks_of_down {p : Port} {f : PortRec → PortRec} {s : State} (h : (s.port p).link ≠ .up) :
    ReleasesLocks s (s.modifyPort p f) :=
  releasesLocks_modifyPort fun hm => absurd hm.1 h

theorem releasesLocks_setLock_none (r : Fin 4) (s : State) : ReleasesLocks s (setLock r none s) := by
  refine ⟨fun q l hl => ?_, fun _ _ _ h => h⟩
  by_cases hq : q = r
  · subst hq
    rw [setLock_self] at hl
    cases hl
  · rw [setLock_of_ne s none hq] at hl
    exact ⟨l, hl, rfl, rfl⟩

theorem releasesLocks_raiseFault (r : FaultReport) (s : State) : ReleasesLocks s (raiseFault r s) :=
  (sameSetup_raiseFault r s).releasesLocks (raiseFault_locks r s)

theorem releasesLocks_routeCheck (s : State) : ReleasesLocks s (routeCheck s) :=
  (sameSetup_routeCheck s).releasesLocks (routeCheck_locks s)

theorem releasesLocks_markHeads (which : Port → PortRec → Bool) (s : State) : ReleasesLocks s (markHeads which s) :=
  (sameSetup_markHeads which s).releasesLocks (markHeads_locks which s)

theorem releasesLocks_setEntry (i : Fin 64) (e : Option TrackEntry) (s : State) : ReleasesLocks s (setEntry i e s) :=
  releasesLocks_of_same

theorem releasesLocks_popReply (p : Port) (s : State) : ReleasesLocks s (popReply p s) :=
  (sameSetup_popReply p s).releasesLocks (popReply_locks p s)

theorem releasesLocks_breakRecord (cause : BreakCause) (r : Fin 4) (s : State) :
    ReleasesLocks s (breakRecord cause r s) := by
  unfold breakRecord
  split
  · exact .refl s
  · exact ((releasesLocks_setLock_none r s).trans (releasesLocks_raiseFault _ _)).trans (releasesLocks_markHeads _ _)

end Sys2Proof.Machine
end

section
/-! CERTIFICATE. The law of the Lock Table, which every step keeps: no event takes a lock, and the examination of a CLAIM takes
one only for a port that is UP and not fenced, and for a window that no record holds (R105, R108). -/

namespace Sys2Proof.Machine

open Sys2Proof

/-! ### Link loss, resets and deferred actions -/

theorem releasesLocks_loseLink (x : Port) (cause : LossCause) (s : State) : ReleasesLocks s (loseLink x cause s) := by
  refine (loseLink_locksFreed x cause s).releasesLocks fun q hq hm => ?_
  obtain ⟨mark, hp, -⟩ := loseLink_port_of_ne hq cause s
  rw [hp]
  exact ⟨hm.1, hm.2⟩

theorem releasesLocks_warmReset (s : State) : ReleasesLocks s (warmReset s) := by
  obtain ⟨ports, -, h⟩ := warmReset_eq s
  refine releasesLocks_of_free fun r => ?_
  rw [h, raiseFault_locks, withdrawNote_locks]
  exact Vector.getElem_replicate r.isLt

theorem releasesLocks_moveNode (n : Node) (s : State) : ReleasesLocks s (moveNode n s) := by
  unfold moveNode
  split
  · exact .refl s
  · exact (releasesLocks_routeCheck _).after

theorem releasesLocks_enterTraining {q : Port} {s : State} (h : (s.port q).link ≠ .up) :
    ReleasesLocks s (enterTraining q s) := by
  rw [enterTraining_eq]
  exact releasesLocks_of_down h

theorem releasesLocks_enablePort (q : Port) (s : State) : ReleasesLocks s (enablePort q s) := by
  unfold enablePort
  split
  · next h => exact releasesLocks_enterTraining (by simp [h])
  · next h => exact releasesLocks_enterTraining (by simp [h])
  · exact .refl s

theorem releasesLocks_disablePort (q : Port) (s : State) : ReleasesLocks s (disablePort q s).1 := by
  unfold disablePort
  split
  · exact .refl s
  · exact releasesLocks_loseLink q _ s
  · next h => exact releasesLocks_of_down (f := PortRec.turnedOff) h

theorem releasesLocks_restartPort (q : Port) (s : State) : ReleasesLocks s (restartPort q s).1 := by
  unfold restartPort
  split
  · next h => exact releasesLocks_enterTraining (by simp [h])
  · exact releasesLocks_loseLink q _ s
  · exact .refl s

theorem releasesLocks_takeActions (work : List PendingAction) (s : State) : ReleasesLocks s (takeActions work s) :=
  takeActions_keeps (ReleasesLocks s) work s (.refl s) (fun u hu => hu.trans (releasesLocks_warmReset u))
    (fun n u hu => hu.trans (releasesLocks_moveNode n u)) (fun q u hu => hu.trans (releasesLocks_disablePort q u))
    (fun q u hu => hu.trans (releasesLocks_restartPort q u))

theorem releasesLocks_linkLoss (x : Port) (cause : LossCause) (s : State) : ReleasesLocks s (linkLoss x cause s) :=
  (releasesLocks_loseLink x cause s).trans (releasesLocks_takeActions _ _)

theorem releasesLocks_releaseAction (x : Port) (s : State) : ReleasesLocks s (releaseAction x s) := by
  unfold releaseAction
  split
  · exact .refl s
  · exact (releasesLocks_takeActions _ _).after

/-! ### The links -/

/-- A port in TRAINING accepts a HELLO. -/
theorem releasesLocks_acceptHello {p : Port} (node : Node) (offers : LanePair) (f : Bool) {s : State}
    (hl : (s.port p).link = .training) : ReleasesLocks s (acceptHello p node offers f s) := by
  have down : (s.port p).link ≠ .up := by simp [hl]
  cases h : (s.port p).seen || f with
  | false => rw [acceptHello_unseen h]; exact releasesLocks_of_down down
  | true =>
    rw [acceptHello_seen h]
    exact (releasesLocks_of_down down).trans (releasesLocks_routeCheck _)

theorem releasesLocks_firstOfTraining (p : Port) (n : Node) (a b : Byte) (f : Bool) (s : State) :
    ReleasesLocks s (firstOfTraining p n a b f s) := by
  unfold firstOfTraining
  split
  · next h => exact releasesLocks_acceptHello n _ f h.1
  · exact .refl s

theorem releasesLocks_nextHello (p : Port) (s : State) : ReleasesLocks s (nextHello p s) :=
  releasesLocks_modifyPort fun h => by split <;> exact h

theorem releasesLocks_takeCredits (p : Port) (c : Credits) (s : State) : ReleasesLocks s (takeCredits p c s) :=
  releasesLocks_modifyPort fun h => by split <;> exact h

theorem releasesLocks_receiveRequest (p : Port) (c : Credits) (r : Request) (s : State) :
    ReleasesLocks s (receiveRequest p c r s) := by
  unfold receiveRequest
  dsimp only
  refine (releasesLocks_takeCredits p c s).trans ?_
  split
  · exact releasesLocks_modifyPort fun h => h
  · exact releasesLocks_linkLoss p _ _

theorem releasesLocks_receiveReply (p : Port) (c : Credits) (r : Reply) (s : State) :
    ReleasesLocks s (receiveReply p c r s) := by
  unfold receiveReply
  dsimp only
  refine (releasesLocks_takeCredits p c s).trans ?_
  split
  · exact releasesLocks_modifyPort fun h => h
  · exact releasesLocks_linkLoss p _ _

theorem releasesLocks_noteLeft (p : Port) (s : State) : ReleasesLocks s (noteLeft p s) := by
  unfold noteLeft
  split
  · exact .refl s
  · split
    · exact (releasesLocks_routeCheck _).after
    · exact .refl s

theorem releasesLocks_parcelGone (p : Port) (t : Transmission) (s : State) : ReleasesLocks s (parcelGone p t s) := by
  unfold parcelGone
  dsimp only
  have free : ReleasesLocks s (s.modifyPort p fun r => { r with tx := none }) := releasesLocks_modifyPort fun h => h
  refine (free.trans (releasesLocks_noteLeft p _)).trans (ReleasesLocks.trans ?_ (releasesLocks_nextHello p _))
  split
  · exact releasesLocks_releaseAction p _
  · exact .refl _

theorem releasesLocks_discardReply (p : Port) (k : FaultKind) (r : Reply) (s : State) :
    ReleasesLocks s (discardReply p k r s) :=
  (releasesLocks_raiseFault _ s).trans (releasesLocks_popReply p _)

theorem releasesLocks_relayOrHold (p : Port) (r : Reply) (i : Fin 64) (e : TrackEntry) (s : State) :
    ReleasesLocks s (relayOrHold p r i e s) := by
  unfold relayOrHold
  split
  · exact (sameSetup_relayReply p r i e s).releasesLocks (by simp [relayReply])
  · exact releasesLocks_setEntry i _ s

theorem releasesLocks_judgeReply (p : Port) (r : Reply) (i : Fin 64) (s : State) :
    ReleasesLocks s (judgeReply p r i s) := by
  unfold judgeReply
  split
  · exact releasesLocks_discardReply p _ r s
  · split
    · split
      · exact releasesLocks_relayOrHold p r i _ s
      · exact .refl s
      · exact (releasesLocks_setEntry i none s).trans (releasesLocks_popReply p _)
      · exact releasesLocks_discardReply p _ r s
      · exact releasesLocks_discardReply p _ r s
    · exact releasesLocks_discardReply p _ r s

/-! ### The timers -/

/-- A port in TRAINING ends its attempt, and holds no lock that its halting could end (R7). -/
theorem releasesLocks_endAttempt {p : Port} {s : State} (hl : (s.port p).link = .training) :
    ReleasesLocks s (endAttempt p s) := by
  have down : (s.port p).link ≠ .up := by simp [hl]
  unfold endAttempt
  split
  · dsimp only
    have counted : ReleasesLocks s (countAttempt p s) := releasesLocks_of_down down
    have still : ((countAttempt p s).port p).link ≠ .up := by simp [countAttempt, hl]
    refine counted.trans ?_
    split
    · exact releasesLocks_of_down still
    · unfold haltPort loseManager
      have halted : ReleasesLocks (countAttempt p s) (enterHalted p (countAttempt p s)) := releasesLocks_of_down still
      refine (halted.trans (releasesLocks_raiseFault { kind := .linkHalted, port := some p } _)).trans ?_
      split
      · exact (releasesLocks_raiseFault _ _).after
      · exact .refl _
  · exact releasesLocks_of_down down

theorem releasesLocks_placeSynth (i : Fin 64) (e : TrackEntry) (st : OwedStatus) (s : State) :
    ReleasesLocks s (placeSynth i e st s) := by
  unfold placeSynth
  split
  · split
    · exact ((sameSetup_enqueueReply _ _ s).releasesLocks (by simp)).trans (releasesLocks_setEntry i _ _)
    · exact releasesLocks_setEntry i _ s
  · exact releasesLocks_setEntry i _ s

/-- A tick keeps all of a lock but its hold time (R114). -/
theorem releasesLocks_tick (s : State) : ReleasesLocks s (tick s) := by
  have ticked (r : Fin 4) : (tick s).locks[r] = s.locks[r].map tickLock := by simp [tick]
  constructor
  case lock =>
    intro r l hl
    rw [ticked, Option.map_eq_some_iff] at hl
    obtain ⟨k, hk, rfl⟩ := hl
    exact ⟨k, hk, rfl, rfl⟩
  case holder =>
    intro r l _ hm
    rw [tick_port]
    exact hm

/-! ### Directives -/

/-- The fence of a port ends its own locks (R117). -/
theorem releasesLocks_setFence (p : Port) (s : State) : ReleasesLocks s (setFence p s) := by
  unfold setFence
  split
  · exact .refl s
  · refine ReleasesLocks.trans ?_ (releasesLocks_markHeads _ _)
    have broken := locksBroken_breakHeldBy p .fence (s.modifyPort p fun r => { r with fenced := true })
    refine LocksFreed.releasesLocks (x := p) (s := s) broken.locksFreed fun q hq hm => ?_
    rw [broken.port q, State.port_modifyPort_of_ne s _ hq]
    exact hm

theorem releasesLocks_clearFence (p : Port) (s : State) : ReleasesLocks s (clearFence p s) :=
  releasesLocks_modifyPort fun h => ⟨h.1, rfl⟩

theorem releasesLocks_putAlertNode (v : Option Node) (s : State) : ReleasesLocks s (putAlertNode v s) := by
  unfold putAlertNode
  dsimp only
  split
  · exact releasesLocks_of_same
  · split
    · exact releasesLocks_of_same
    · exact (releasesLocks_routeCheck _).after

theorem releasesLocks_armAlert (s : State) : ReleasesLocks s (armAlert s) := by
  unfold armAlert
  dsimp only
  split
  · exact releasesLocks_of_same
  · exact ((sameSetup_raiseAlert _).releasesLocks (raiseAlert_locks _)).after

theorem releasesLocks_writeNode (n : Node) (e : NodeEntry) (s : State) : ReleasesLocks s (writeNode n e s) := by
  unfold writeNode
  split
  · exact .refl s
  · exact (releasesLocks_routeCheck _).after

theorem releasesLocks_commitTable (s : State) : ReleasesLocks s (commitTable s).state := by
  unfold commitTable
  split
  · exact .refl s
  · split
    · exact .refl s
    · exact releasesLocks_of_same

/-- No effect of a command takes a lock. -/
theorem DirectiveEffect.releasesLocks {s : State} {effect : State → DirResult} (h : DirectiveEffect s effect) (u : State) :
    ReleasesLocks u (effect u).state := by
  cases h with
  | read words => exact .refl u
  | deferred k => exact .refl u
  | enabled p => exact releasesLocks_enablePort p u
  | fenced p => exact releasesLocks_setFence p u
  | unfenced p => exact releasesLocks_clearFence p u
  | committed => exact releasesLocks_commitTable u
  | lockBroken r => exact releasesLocks_breakRecord .directive r u
  | nodeWritten n e _ _ => exact releasesLocks_writeNode n e u
  | alertNodeSet v => exact releasesLocks_putAlertNode v u
  | alertArmed => exact releasesLocks_armAlert u
  | _ => exact releasesLocks_of_same

theorem releasesLocks_runCommand (c : Command) (d : Directive) (s : State) :
    ReleasesLocks s (runCommand c c.checks d s).state := by
  unfold runCommand
  split
  · exact .refl s
  · split
    · exact .refl s
    · split
      · exact .refl s
      · next effect he =>
        refine ReleasesLocks.trans ?_ ((c.checks_give _ _ _ he).releasesLocks (claimManager c d s))
        unfold claimManager
        split
        · exact .refl s
        · exact releasesLocks_of_same

theorem releasesLocks_deliver (d : Directive) (r : DirResult) : ReleasesLocks r.state (deliver d r) := by
  unfold deliver
  split
  · exact releasesLocks_of_same
  · exact (releasesLocks_takeActions _ _).after

/-! ### Every event -/

/-- No event takes a lock before the router comes to rest. -/
theorem EventEffect.releasesLocks {s t : State} (h : EventEffect s t) : ReleasesLocks s t := by
  cases h with
  | helloDue p hl _ =>
    unfold sendHello
    rw [State.modifyPort_modifyPort]
    exact releasesLocks_of_down (by simp [hl])
  | attemptEnded p hl _ => exact releasesLocks_endAttempt hl
  | helloAccepted p n a b f hl _ => exact releasesLocks_acceptHello n _ f hl
  | peerRestarted p n a b _ => exact (releasesLocks_linkLoss p _ s).trans (releasesLocks_firstOfTraining p n a b _ _)
  | damaged p _ => exact releasesLocks_linkLoss p _ s
  | requestReceived p c r _ => exact releasesLocks_receiveRequest p c r s
  | replyReceived p c r _ => exact releasesLocks_receiveReply p c r s
  | creditReceived p c _ => exact releasesLocks_takeCredits p c s
  | unknownKindReceived p _ => exact releasesLocks_raiseFault _ s
  | parcelLeft p t _ => exact releasesLocks_parcelGone p t s
  | replyStray p r rest _ _ => exact releasesLocks_discardReply p _ r s
  | replyJudged p r rest i _ _ => exact releasesLocks_judgeReply p r i s
  | deadline i e _ _ _ => exact (releasesLocks_raiseFault _ s).trans (releasesLocks_placeSynth i e _ _)
  | orphanDeadline i e _ _ _ => exact releasesLocks_setEntry i _ s
  | tombstoneEnded i e _ _ _ => exact releasesLocks_setEntry i none s
  | holdEnded r l _ _ => exact releasesLocks_breakRecord _ r s
  | executed c d _ _ => exact (releasesLocks_runCommand c d s).trans (releasesLocks_deliver d _)
  | executedUnknown d _ _ => exact releasesLocks_deliver d (reply .badCommand [] s)

/-! ### Examinations -/

/-- A record is given to a port that may hold locks, for a window that no other record holds (R105). -/
theorem lockLaw_setLock {r : Fin 4} {l : Lock} {s : State} (hs : LockLaw s) (hm : (s.port l.holder).MayHold)
    (hu : ∀ (q : Fin 4) (k : Lock), s.locks[q] = some k → k.window = l.window → q = r) :
    LockLaw (setLock r (some l) s) := by
  obtain ⟨once, sound⟩ := hs
  have record {q : Fin 4} {k : Lock} (hk : (setLock r (some l) s).locks[q] = some k) :
      q = r ∧ k = l ∨ s.locks[q] = some k := by
    by_cases hq : q = r
    · subst hq
      rw [setLock_self] at hk
      exact .inl ⟨rfl, (Option.some.inj hk).symm⟩
    · exact .inr (setLock_of_ne s (some l) hq ▸ hk)
  constructor
  · intro q p k m hk hp hw
    obtain ⟨hq, hkl⟩ | oldk := record hk <;> obtain ⟨hpr, hml⟩ | oldm := record hp
    · exact hq.trans hpr.symm
    · exact hq.trans (hu p m oldm (hw.symm.trans (congrArg Lock.window hkl))).symm
    · exact (hu q k oldk (hw.trans (congrArg Lock.window hml))).trans hpr.symm
    · exact once q p k m oldk oldm hw
  · intro q k hk
    obtain ⟨-, rfl⟩ | old := record hk
    · exact hm
    · exact sound q k old

/-- A CLAIM of a port that may hold locks renews its own lock, or takes a record for a window that is not held (R108). -/
theorem lockLaw_decideClaim {x : Port} (i : Fin 48) {s : State} (hs : LockLaw s) (hm : (s.port x).MayHold) :
    LockLaw (decideClaim x i s).2 := by
  cases hr : recordOf x i s with
  | some r =>
    obtain ⟨l, hl, hw, -⟩ := holds_of_recordOf hr
    rw [decideClaim_renews hr]
    exact lockLaw_setLock hs hm fun q k hk hkw => hs.1 q r k l hk hl (hkw.trans hw.symm)
  | none =>
    by_cases hheld : ∃ (q : Fin 4) (l : Lock), s.locks[q] = some l ∧ l.window = i
    · obtain ⟨q, l, hl, hw⟩ := hheld
      rw [decideClaim_refuses hr ⟨q, l, hl, hw, recordOf_eq_none_iff.1 hr q l hl hw⟩]
      exact hs
    · have hn (q : Fin 4) (l : Lock) (hl : s.locks[q] = some l) : l.window ≠ i := fun hw => hheld ⟨q, l, hl, hw⟩
      rw [decideClaim_unheld hn]
      split
      · exact (releasesLocks_markHeads _ _).lockLaw (lockLaw_setLock hs hm fun q k hk hkw => absurd hkw (hn q k hk))
      · exact hs

theorem releasesLocks_decideRelease (x : Port) (i : Fin 48) (s : State) : ReleasesLocks s (decideRelease x i s).2 := by
  obtain ⟨r, h | h⟩ := decideRelease_state x i s <;> rw [h]
  · exact .refl s
  · exact (releasesLocks_setLock_none r s).trans (releasesLocks_markHeads _ _)

theorem lockLaw_answerPathLock {x : Port} (h : Request) (i : Fin 48) (d : Port) (out : Addr) {s : State} (hs : LockLaw s)
    (hm : (s.port x).MayHold) : LockLaw (answerPathLock x h i d out s) := by
  have answered (res : Option Resolution) (a : Reply) (u : State) : ReleasesLocks u (offerAnswer x res a u) :=
    (sameSetup_offerAnswer x res a u).releasesLocks (offerAnswer_locks x res a u)
  unfold answerPathLock refuse
  refine (answered _ _ _).lockLaw ?_
  split
  · exact lockLaw_decideClaim i hs hm
  · exact (releasesLocks_decideRelease x i s).lockLaw hs

theorem lockLaw_resolveAddress {x : Port} (h : Request) {s : State} (hs : LockLaw s) (hm : (s.port x).MayHold) :
    LockLaw (resolveAddress x h s) := by
  unfold resolveAddress
  dsimp only
  split
  · exact ((sameSetup_stopHead x _ h _ _ s).releasesLocks (by simp)).lockLaw hs
  · exact ((sameSetup_stopHead x _ h _ _ s).releasesLocks (by simp)).lockLaw hs
  · split
    · exact lockLaw_answerPathLock h _ _ _ hs hm
    · exact ((sameSetup_outputChecks x h _ s).releasesLocks (by simp)).lockLaw hs

/-- A port with a request is UP (R8). -/
theorem LinkLaw.up_of_request {s : State} (h : LinkLaw s) {x : Port} (hr : (s.port x).reqLane ≠ []) :
    (s.port x).link = .up := by
  by_contra hn
  exact hr ((h x).1 hn).1

/-- Only a DIRECTIVE passes a set fence, so a head that is looked up in the Window Table is of a port that is not fenced, and
that is UP since it has a request (R68, R69). -/
theorem lockLaw_examineHead {x : Port} {s : State} (hl : LinkLaw s) (hs : LockLaw s) : LockLaw (examineHead x s) := by
  unfold examineHead
  split
  · exact ((sameSetup_setHead x .empty s).releasesLocks rfl).lockLaw hs
  · next h rest hlane =>
    split
    · exact ((sameSetup_stopByFence x none h s).releasesLocks (by simp)).lockLaw hs
    · next hpass =>
      split
      · next m _ => exact ((sameSetup_stopMalformed x h m s).releasesLocks (by simp)).lockLaw hs
      · split
        · exact ((sameSetup_resolveNode x h s).releasesLocks (by simp)).lockLaw hs
        · next hkind =>
          have unfenced : (s.port x).fenced = false :=
            ((fenceStops_eq_false_iff _ _ _).1 (Bool.eq_false_of_not_eq_true hpass)).resolve_right fun hp =>
              hkind (by rw [((passesFence_iff x h s).1 hp).1]; rfl)
          exact lockLaw_resolveAddress h hs ⟨hl.up_of_request (by simp [hlane]), unfenced⟩

/-! ### Every step -/

/-- Of the internal actions the first examination alone changes the Lock Table (R71). -/
theorem lockLaw_doInternal (a : Internal) {s : State} (hl : LinkLaw s) (hs : LockLaw s) : LockLaw (doInternal a s) := by
  have kept (hk : (doInternal a s).locks = s.locks) : LockLaw (doInternal a s) :=
    ((sameSetup_doInternal a s).releasesLocks hk).lockLaw hs
  cases a with
  | examine x => exact lockLaw_examineHead hl hs
  | reexamine x => exact kept (reexamineHead_locks x s)
  | placeReply => exact kept (placeReply_locks s)
  | grantM => exact kept (grantM_locks s)
  | choose x => exact kept (chooseNext_locks x s)

/-- The coming to rest of an event keeps the link law, and with it the lock law. -/
theorem lockLaw_settle {s : State} (hl : LinkLaw s) (hs : LockLaw s) : LockLaw (settle s) :=
  (settle_keeps (fun u => LinkLaw u ∧ LockLaw u) s ⟨hl, hs⟩ fun a u k ⟨ul, us⟩ ha =>
    ⟨(movesInternally_doInternal k ha).linkLaw ul, lockLaw_doInternal a (s := { u with freeUsed := k }) ul us⟩).2

/-- Whatever a command comes to keeps the lock law: an edge of RST# leaves no lock, a tick keeps windows and holders, and an
event takes no lock before the coming to rest. -/
theorem CommandEffect.lockLaw {s t : State} (h : CommandEffect s t) (hl : LinkLaw s) (hs : LockLaw s) : LockLaw t := by
  cases h with
  | none => exact hs
  | resetAsserted _ => exact (releasesLocks_of_free (s := s) fun r => Vector.getElem_replicate r.isLt).lockLaw hs
  | resetReleased n m _ => exact (releasesLocks_of_free (s := s) fun r => State.cold_locks n m r).lockLaw hs
  | ticked _ => exact (releasesLocks_tick s).lockLaw hs
  | event u _ hu => exact lockLaw_settle (hu.moves.linkLaw hl) (hu.releasesLocks.lockLaw hs)

/-- Settles O56: whatever the step's command comes to keeps the law. -/
theorem everyStepKeepsTheLockLaw : Obligations.EveryStepKeepsTheLockLaw := by
  intro s t hl hs h
  obtain ⟨queue, heffect⟩ := step_effect h
  exact heffect.lockLaw hl hs

end Sys2Proof.Machine
end

end

section
-- One thread for all theorems: a thread for each takes a stack of its own, and there is no room for them all.
set_option Elab.async false

section
/-! SUPPORT. What leaves the manager port and halts no port: the operations that change no setup, and the changes of the
port records that do not enter HALTED (R8, R140). -/

namespace Sys2Proof.Machine

open Sys2Proof

/-! ### Operations that change no setup -/

theorem sameSetup_takeCredits (p : Port) (c : Credits) (s : State) : SameSetup s (takeCredits p c s) :=
  sameSetup_modifyPort p _ s fun r => by split <;> exact PortRec.SameSetup.refl r

theorem sameSetup_nextHello (p : Port) (s : State) : SameSetup s (nextHello p s) :=
  sameSetup_modifyPort p _ s fun r => by split <;> exact PortRec.SameSetup.refl r

theorem sameSetup_storeRequest (p : Port) (q : Request) (s : State) : SameSetup s (storeRequest p q s) :=
  sameSetup_modifyPort p _ s fun r => PortRec.SameSetup.refl r

theorem sameSetup_storeReply (p : Port) (q : Reply) (s : State) : SameSetup s (storeReply p q s) :=
  sameSetup_modifyPort p _ s fun r => PortRec.SameSetup.refl r

theorem sameSetup_noteLeft (p : Port) (s : State) : SameSetup s (noteLeft p s) := by
  unfold noteLeft
  split
  · exact .refl s
  · split
    · exact (sameSetup_alert s _).trans (sameSetup_routeCheck _)
    · exact .refl s

theorem sameSetup_discardReply (p : Port) (k : FaultKind) (r : Reply) (s : State) :
    SameSetup s (discardReply p k r s) :=
  (sameSetup_raiseFault _ s).trans (sameSetup_popReply p _)

theorem sameSetup_relayOrHold (p : Port) (r : Reply) (i : Fin 64) (e : TrackEntry) (s : State) :
    SameSetup s (relayOrHold p r i e s) := by
  unfold relayOrHold
  split
  · exact sameSetup_relayReply p r i e s
  · exact sameSetup_setEntry i _ s

/-- A reply is relayed, kept or discarded, at the Tracking Table and the lanes (R93). -/
theorem sameSetup_judgeReply (p : Port) (r : Reply) (i : Fin 64) (s : State) : SameSetup s (judgeReply p r i s) := by
  unfold judgeReply
  split
  · exact sameSetup_discardReply p _ r s
  · split
    · split
      · exact sameSetup_relayOrHold p r i _ s
      · exact .refl s
      · exact (sameSetup_setEntry i none s).trans (sameSetup_popReply p _)
      · exact sameSetup_discardReply p _ r s
      · exact sameSetup_discardReply p _ r s
    · exact sameSetup_discardReply p _ r s

theorem sameSetup_placeSynth (i : Fin 64) (e : TrackEntry) (st : OwedStatus) (s : State) :
    SameSetup s (placeSynth i e st s) := by
  unfold placeSynth
  split
  · split
    · exact (sameSetup_enqueueReply _ _ s).trans (sameSetup_toTombstone i e _)
    · exact sameSetup_toTombstone i e s
  · exact sameSetup_setEntry i _ s

theorem sameSetup_breakRecord (cause : BreakCause) (r : Fin 4) (s : State) : SameSetup s (breakRecord cause r s) := by
  unfold breakRecord
  split
  · exact .refl s
  · exact ((sameSetup_setLock r none s).trans (sameSetup_raiseFault _ _)).trans (sameSetup_markHeads _ _)

theorem sameSetup_breakHeldBy (x : Port) (cause : BreakCause) (s : State) : SameSetup s (breakHeldBy x cause s) :=
  breakHeldBy_keeps (SameSetup s) x cause s (.refl s) fun r u hu => hu.trans (sameSetup_breakRecord cause r u)

/-! ### Changes that leave the manager port and halt no port -/

/-- From `s` to `t` the manager port stays, and no port enters HALTED. -/
structure HaltsNoPort (s t : State) : Prop where
  manager : t.manager = s.manager
  link : ∀ p : Port, (s.port p).link ≠ .halted → (t.port p).link ≠ .halted

theorem HaltsNoPort.refl (s : State) : HaltsNoPort s s := ⟨rfl, fun _ => id⟩

theorem HaltsNoPort.trans {s t u : State} (h : HaltsNoPort s t) (k : HaltsNoPort t u) : HaltsNoPort s u :=
  ⟨k.manager.trans h.manager, fun p => k.link p ∘ h.link p⟩

/-- Such a change keeps the law (R140). -/
theorem HaltsNoPort.managerLaw {s t : State} (h : HaltsNoPort s t) (hs : ManagerLaw s) : ManagerLaw t :=
  fun p hp => h.link p (hs p (h.manager ▸ hp))

theorem SameSetup.haltsNoPort {s t : State} (h : SameSetup s t) : HaltsNoPort s t := by
  obtain ⟨-, -, -, -, -, -, -, manager, -⟩ := id h
  exact ⟨manager, fun p hp => h.link p ▸ hp⟩

/-- A change of other blocks alone. -/
theorem haltsNoPort_of_same {s t : State} (hm : t.manager = s.manager := by rfl) (hp : t.ports = s.ports := by rfl) :
    HaltsNoPort s t :=
  ⟨hm, fun p h => by simpa [State.port, hp] using h⟩

/-- A change of other blocks before. -/
theorem HaltsNoPort.after {s u t : State} (h : HaltsNoPort u t) (hm : u.manager = s.manager := by rfl)
    (hp : u.ports = s.ports := by rfl) : HaltsNoPort s t :=
  (haltsNoPort_of_same hm hp).trans h

/-- A change of one port record that does not halt the port. -/
theorem haltsNoPort_modifyPort {p : Port} {f : PortRec → PortRec} {s : State}
    (h : (s.port p).link ≠ .halted → (f (s.port p)).link ≠ .halted) : HaltsNoPort s (s.modifyPort p f) := by
  refine ⟨rfl, fun q hq => ?_⟩
  by_cases e : q = p
  · subst e
    rw [State.port_modifyPort_self]
    exact h hq
  · rwa [State.port_modifyPort_of_ne s f e]

end Sys2Proof.Machine
end

section
/-! CERTIFICATE. The law of the manager port, which every step keeps: a directive makes only a port that is not HALTED the
manager port, and only the fourth counted attempt halts a port, which then gives it up (R140, R141, R143, R144). -/

namespace Sys2Proof.Machine

open Sys2Proof

/-! ### Link loss, resets and deferred actions -/

/-- No deferred action halts a port (R9, R136). -/
theorem link_ne_halted_of_actionMove (r q : PortRec) (m : ActionMove r q) (h : r.link ≠ .halted) :
    q.link ≠ .halted := by
  cases m with
  | same => exact h
  | lost n cause => unfold PortRec.lost; split <;> simp [PortRec.turnedOff, PortRec.trained]
  | trained n => simp [PortRec.trained]
  | turnedOff => simp [PortRec.turnedOff]
  | warmed n =>
    unfold PortRec.warmed
    split
    · exact h
    · simp [PortRec.trained]
  | noticed lane owed queue mark => exact h

theorem loseLink_manager (x : Port) (cause : LossCause) (s : State) : (loseLink x cause s).manager = s.manager := by
  obtain ⟨_, _, _, _, _, _, _, h⟩ := loseLink_blocks x cause s
  rw [h]

theorem haltsNoPort_loseLink (x : Port) (cause : LossCause) (s : State) : HaltsNoPort s (loseLink x cause s) :=
  ⟨loseLink_manager x cause s, fun p => link_ne_halted_of_actionMove _ _ (actionMove_loseLink x p cause s)⟩

theorem warmReset_manager (s : State) : (warmReset s).manager = s.manager := by
  obtain ⟨ports, -, h⟩ := warmReset_eq s
  rw [h, raiseFault_manager, withdrawNote_manager]
  rfl

theorem moveNode_manager (n : Node) (s : State) : (moveNode n s).manager = s.manager := by
  unfold moveNode
  split
  · rfl
  · rw [routeCheck_manager]

theorem disablePort_manager (q : Port) (s : State) : (disablePort q s).1.manager = s.manager := by
  unfold disablePort
  split
  · rfl
  · exact loseLink_manager q .disabled s
  · exact enterOff_manager q s

theorem restartPort_manager (q : Port) (s : State) : (restartPort q s).1.manager = s.manager := by
  unfold restartPort
  split
  · exact enterTraining_manager q s
  · exact loseLink_manager q .restart s
  · rfl

theorem takeActions_manager (work : List PendingAction) (s : State) : (takeActions work s).manager = s.manager :=
  takeActions_keeps (fun u => u.manager = s.manager) work s rfl (fun u hu => (warmReset_manager u).trans hu)
    (fun n u hu => (moveNode_manager n u).trans hu) (fun q u hu => (disablePort_manager q u).trans hu)
    (fun q u hu => (restartPort_manager q u).trans hu)

theorem haltsNoPort_takeActions (work : List PendingAction) (s : State) : HaltsNoPort s (takeActions work s) :=
  ⟨takeActions_manager work s, fun _ => takeActions_port_keeps link_ne_halted_of_actionMove work⟩

theorem haltsNoPort_linkLoss (x : Port) (cause : LossCause) (s : State) : HaltsNoPort s (linkLoss x cause s) :=
  (haltsNoPort_loseLink x cause s).trans (haltsNoPort_takeActions _ _)

theorem haltsNoPort_releaseAction (x : Port) (s : State) : HaltsNoPort s (releaseAction x s) := by
  unfold releaseAction
  split
  · exact .refl s
  · exact (haltsNoPort_takeActions _ _).after

/-! ### The links -/

theorem haltsNoPort_acceptHello (p : Port) (node : Node) (offers : LanePair) (f : Bool) (s : State) :
    HaltsNoPort s (acceptHello p node offers f s) := by
  cases h : (s.port p).seen || f with
  | false => rw [acceptHello_unseen h]; exact haltsNoPort_modifyPort id
  | true =>
    rw [acceptHello_seen h]
    exact (haltsNoPort_modifyPort fun _ => by simp [PortRec.entering]).trans (sameSetup_routeCheck _).haltsNoPort

theorem haltsNoPort_firstOfTraining (p : Port) (n : Node) (a b : Byte) (f : Bool) (s : State) :
    HaltsNoPort s (firstOfTraining p n a b f s) := by
  unfold firstOfTraining
  split
  · exact haltsNoPort_acceptHello p n _ f s
  · exact .refl s

theorem haltsNoPort_receiveRequest (p : Port) (c : Credits) (r : Request) (s : State) :
    HaltsNoPort s (receiveRequest p c r s) := by
  unfold receiveRequest
  dsimp only
  refine (sameSetup_takeCredits p c s).haltsNoPort.trans ?_
  split
  · exact (sameSetup_storeRequest p r _).haltsNoPort
  · exact haltsNoPort_linkLoss p _ _

theorem haltsNoPort_receiveReply (p : Port) (c : Credits) (r : Reply) (s : State) :
    HaltsNoPort s (receiveReply p c r s) := by
  unfold receiveReply
  dsimp only
  refine (sameSetup_takeCredits p c s).haltsNoPort.trans ?_
  split
  · exact (sameSetup_storeReply p r _).haltsNoPort
  · exact haltsNoPort_linkLoss p _ _

theorem haltsNoPort_parcelGone (p : Port) (t : Transmission) (s : State) : HaltsNoPort s (parcelGone p t s) := by
  unfold parcelGone
  dsimp only
  have free : HaltsNoPort s (s.modifyPort p fun r => { r with tx := none }) := haltsNoPort_modifyPort id
  refine (free.trans (sameSetup_noteLeft p _).haltsNoPort).trans
    (HaltsNoPort.trans ?_ (sameSetup_nextHello p _).haltsNoPort)
  split
  · exact haltsNoPort_releaseAction p _
  · exact .refl _

theorem haltsNoPort_sendHello (p : Port) (s : State) : HaltsNoPort s (sendHello p s) :=
  haltsNoPort_modifyPort fun h => by split <;> exact h

/-! ### Directives -/

theorem haltsNoPort_enablePort (q : Port) (s : State) : HaltsNoPort s (enablePort q s) := by
  have trained : HaltsNoPort s (enterTraining q s) := by
    rw [enterTraining_eq]
    exact haltsNoPort_modifyPort fun _ => by simp [PortRec.trained]
  unfold enablePort
  split
  · exact trained
  · exact trained
  · exact .refl s

theorem haltsNoPort_setFence (p : Port) (s : State) : HaltsNoPort s (setFence p s) := by
  unfold setFence
  split
  · exact .refl s
  · refine HaltsNoPort.trans (t := s.modifyPort p fun r => { r with fenced := true }) (haltsNoPort_modifyPort id) ?_
    exact ((sameSetup_breakHeldBy p .fence _).trans (sameSetup_markHeads _ _)).haltsNoPort

theorem haltsNoPort_commitTable (s : State) : HaltsNoPort s (commitTable s).state := by
  unfold commitTable
  split
  · exact .refl s
  · split
    · exact .refl s
    · exact haltsNoPort_of_same

theorem haltsNoPort_writeNode (n : Node) (e : NodeEntry) (s : State) : HaltsNoPort s (writeNode n e s) := by
  unfold writeNode
  split
  · exact .refl s
  · exact (sameSetup_routeCheck _).haltsNoPort.after

theorem haltsNoPort_putAlertNode (v : Option Node) (s : State) : HaltsNoPort s (putAlertNode v s) := by
  unfold putAlertNode
  dsimp only
  split
  · exact haltsNoPort_of_same
  · split
    · exact haltsNoPort_of_same
    · exact (sameSetup_routeCheck _).haltsNoPort.after

theorem haltsNoPort_armAlert (s : State) : HaltsNoPort s (armAlert s) := by
  unfold armAlert
  dsimp only
  split
  · exact haltsNoPort_of_same
  · exact (sameSetup_raiseAlert _).haltsNoPort.after

/-- Every effect that a command may have keeps the law, where the links are those that its value checks read: SET_MANAGER
alone names a manager port, and takes no port that is HALTED (R143). -/
theorem DirectiveEffect.managerLaw {s u : State} {effect : State → DirResult} (h : DirectiveEffect s effect)
    (hp : ∀ p, u.port p = s.port p) (hu : ManagerLaw u) : ManagerLaw (effect u).state := by
  cases h with
  | enabled p => exact (haltsNoPort_enablePort p u).managerLaw hu
  | fenced p => exact (haltsNoPort_setFence p u).managerLaw hu
  | unfenced p =>
    exact (haltsNoPort_modifyPort (p := p) (f := fun r => { r with fenced := false }) (s := u) id).managerLaw hu
  | committed => exact (haltsNoPort_commitTable u).managerLaw hu
  | lockBroken r => exact (sameSetup_breakRecord .directive r u).haltsNoPort.managerLaw hu
  | nodeWritten n e _ _ => exact (haltsNoPort_writeNode n e u).managerLaw hu
  | managerSet p hl =>
    intro q hq
    obtain rfl := Option.some.inj hq
    exact (hp p).symm ▸ hl
  | alertNodeSet v => exact (haltsNoPort_putAlertNode v u).managerLaw hu
  | alertArmed => exact (haltsNoPort_armAlert u).managerLaw hu
  | _ => exact hu

/-- A command that passes the authority check claims an unset manager port for an origin that is not HALTED (R132, R141). -/
theorem managerLaw_claimManager {c : Command} {d : Directive} {s : State} (ha : authorityFails c d s = false)
    (hs : ManagerLaw s) : ManagerLaw (claimManager c d s) := by
  unfold claimManager
  split
  · exact hs
  · next hc =>
    intro p hp
    obtain rfl := Option.some.inj hp
    obtain ⟨modifying, unset⟩ : c.readOnly = false ∧ s.manager = none := by simpa using hc
    simpa [authorityFails, modifying, unset] using ha

theorem managerLaw_runCommand (c : Command) (d : Directive) {s : State} (hs : ManagerLaw s) :
    ManagerLaw (runCommand c c.checks d s).state := by
  unfold runCommand
  split
  · exact hs
  · next ha =>
    split
    · exact hs
    · split
      · exact hs
      · next effect he =>
        have ports (p : Port) : (claimManager c d s).port p = s.port p := by
          unfold claimManager
          split <;> rfl
        exact (c.checks_give _ _ _ he).managerLaw ports
          (managerLaw_claimManager (Bool.eq_false_of_not_eq_true ha) hs)

theorem haltsNoPort_deliver (d : Directive) (r : DirResult) : HaltsNoPort r.state (deliver d r) := by
  unfold deliver
  split
  · exact haltsNoPort_of_same
  · exact (haltsNoPort_takeActions _ _).after

/-! ### The fourth counted attempt -/

theorem haltsNoPort_beginAttempt (p : Port) (s : State) : HaltsNoPort s (beginAttempt p s) := haltsNoPort_modifyPort id

theorem haltsNoPort_countAttempt (p : Port) (s : State) : HaltsNoPort s (countAttempt p s) := haltsNoPort_modifyPort id

/-- The port that is halted is not the manager port afterwards, and no other port is halted (R144). -/
theorem managerLaw_haltPort (p : Port) {s : State} (hs : ManagerLaw s) : ManagerLaw (haltPort p s) := by
  have other (q : Port) (hq : q ≠ p) : (enterHalted p s).port q = s.port q := State.port_modifyPort_of_ne s _ hq
  intro q hq
  unfold haltPort loseManager at hq ⊢
  split at hq
  · rw [raiseFault_manager] at hq
    cases hq
  · next hm =>
    rw [raiseFault_manager, enterHalted_manager] at hm hq
    rw [if_neg (by rwa [raiseFault_manager, enterHalted_manager]), raiseFault_port,
      other q fun e => hm (e ▸ hq)]
    exact hs q hq

/-- An attempt begins again, or the port is halted (R7). -/
theorem managerLaw_endAttempt (p : Port) {s : State} (hs : ManagerLaw s) : ManagerLaw (endAttempt p s) := by
  have counted : ManagerLaw (countAttempt p s) := (haltsNoPort_countAttempt p s).managerLaw hs
  unfold endAttempt
  split
  · dsimp only
    split
    · exact (haltsNoPort_beginAttempt p _).managerLaw counted
    · exact managerLaw_haltPort p counted
  · exact (haltsNoPort_beginAttempt p s).managerLaw hs

/-! ### Every step -/

/-- Every event keeps the law before the router comes to rest. -/
theorem EventEffect.managerLaw {s t : State} (h : EventEffect s t) (hs : ManagerLaw s) : ManagerLaw t := by
  have kept (k : HaltsNoPort s t) : ManagerLaw t := k.managerLaw hs
  cases h with
  | helloDue p _ _ =>
    exact kept ((haltsNoPort_modifyPort (f := fun r => { r with helloTimer := some Config.helloPeriod }) id).trans
      (haltsNoPort_sendHello p _))
  | attemptEnded p _ _ => exact managerLaw_endAttempt p hs
  | helloAccepted p n a b f _ _ => exact kept (haltsNoPort_acceptHello p n _ f s)
  | peerRestarted p n a b _ => exact kept ((haltsNoPort_linkLoss p _ s).trans (haltsNoPort_firstOfTraining p n a b _ _))
  | damaged p _ => exact kept (haltsNoPort_linkLoss p _ s)
  | requestReceived p c r _ => exact kept (haltsNoPort_receiveRequest p c r s)
  | replyReceived p c r _ => exact kept (haltsNoPort_receiveReply p c r s)
  | creditReceived p c _ => exact kept (sameSetup_takeCredits p c s).haltsNoPort
  | unknownKindReceived p _ => exact kept (sameSetup_raiseFault _ s).haltsNoPort
  | parcelLeft p t _ => exact kept (haltsNoPort_parcelGone p t s)
  | replyStray p r rest _ _ => exact kept (sameSetup_discardReply p _ r s).haltsNoPort
  | replyJudged p r rest i _ _ => exact kept (sameSetup_judgeReply p r i s).haltsNoPort
  | deadline i e _ _ _ => exact kept ((sameSetup_raiseFault _ s).trans (sameSetup_placeSynth i e _ _)).haltsNoPort
  | orphanDeadline i e _ _ _ => exact kept (sameSetup_toTombstone i e s).haltsNoPort
  | tombstoneEnded i e _ _ _ => exact kept (sameSetup_setEntry i none s).haltsNoPort
  | holdEnded r l _ _ => exact kept (sameSetup_breakRecord _ r s).haltsNoPort
  | executed c d _ _ => exact (haltsNoPort_deliver d _).managerLaw (managerLaw_runCommand c d hs)
  | executedUnknown d _ _ => exact kept (haltsNoPort_deliver d (reply .badCommand [] s))

theorem haltsNoPort_tick (s : State) : HaltsNoPort s (tick s) :=
  ⟨rfl, fun p hp => by rw [tick_port]; exact hp⟩

/-- The falling edge of RST# leaves the links as they are (R182). -/
theorem haltsNoPort_assertReset (s : State) : HaltsNoPort s (assertReset s) :=
  ⟨rfl, fun p hp => by simpa [assertReset, State.port, resetPort] using hp⟩

theorem managerLaw_cold (n : Node) (m : Option Port) : ManagerLaw (State.cold n m) := by
  obtain ⟨_, rfl, -, -, hm, -⟩ := lawsHoldAfterReset.1 n m
  exact hm

/-- Whatever a command comes to keeps the law: no edge of RST# and no tick halts a port, and the coming to rest of an event
changes no link state. -/
theorem CommandEffect.managerLaw {s t : State} (h : CommandEffect s t) (hs : ManagerLaw s) : ManagerLaw t := by
  cases h with
  | none => exact hs
  | resetAsserted _ => exact (haltsNoPort_assertReset s).managerLaw hs
  | resetReleased n m _ => exact managerLaw_cold n m
  | ticked _ => exact (haltsNoPort_tick s).managerLaw hs
  | event u _ hu => exact (sameSetup_settle u).haltsNoPort.managerLaw (hu.managerLaw hs)

/-- Settles O52: whatever the step's command comes to keeps the law. -/
theorem everyStepKeepsTheManagerLaw : Obligations.EveryStepKeepsTheManagerLaw := by
  intro s t hs h
  obtain ⟨queue, heffect⟩ := step_effect h
  exact heffect.managerLaw hs

end Sys2Proof.Machine
end

section
/-! CERTIFICATE. The authority of directives: what reads change, who is refused, and what waits for its reply (R126, R132 to
R137, R139 to R142, R149, R150, R157). -/

namespace Sys2Proof.Machine

open Sys2Proof

/-! ### Reads -/

/-- Every effect that the checks give is a read: it answers with words of the state and leaves the state (R139). -/
def ValueChecks.Read (checks : ValueChecks) : Prop :=
  ∀ args s effect, checks args s = some effect → ∃ words : State → List Word, effect = fun u => reply .ok (words u) u

theorem noArgs_read (words : State → List Word) : (noArgs fun u => reply .ok (words u) u).Read := by
  intro args s effect he
  cases args with
  | nil => exact ⟨words, (Option.some.inj he).symm⟩
  | cons => cases he

theorem portArg_read (words : Port → State → List Word) : (portArg fun p u => reply .ok (words p u) u).Read := by
  intro args s effect he
  unfold portArg at he
  split at he
  · obtain ⟨p, -, hp⟩ := Option.map_eq_some_iff.1 he
    exact ⟨words p, hp.symm⟩
  · cases he

theorem tableReadChecks_read : tableReadChecks.Read := by
  intro args s effect he
  unfold tableReadChecks at he
  split at he
  · split at he
    · cases he
    · next k _ =>
      split at he
      · exact ⟨fun u => entryWords (bankEntry false k u), (Option.some.inj he).symm⟩
      · split at he
        · exact ⟨fun u => entryWords (bankEntry true k u), (Option.some.inj he).symm⟩
        · cases he
  · cases he

theorem trackReadChecks_read : trackReadChecks.Read := by
  intro args s effect he
  unfold trackReadChecks at he
  split at he
  · next w =>
    split at he
    · exact ⟨fun u => trackWords u.track[w.toNat], (Option.some.inj he).symm⟩
    · cases he
  · cases he

theorem faultReadChecks_read : faultReadChecks.Read := by
  intro args s effect he
  unfold faultReadChecks at he
  split at he
  · next w =>
    split at he
    · exact ⟨fun u => (u.faultList.records.take w.toNat).flatMap faultWords, (Option.some.inj he).symm⟩
    · cases he
  · cases he

/-- The read-only commands read (R139). -/
theorem Command.checks_read {c : Command} (hc : c.readOnly = true) : c.checks.Read := by
  cases c
  case identify => exact noArgs_read identifyWords
  case portStatus => exact portArg_read statusWords
  case tableRead => exact tableReadChecks_read
  case trackRead => exact trackReadChecks_read
  case lockRead => exact noArgs_read fun u => lockIndices.map fun r => lockWord u.locks[r]
  case nodeRead => exact noArgs_read fun u => [0, 1, 2, 3].map (nodeWord u)
  case faultRead => exact faultReadChecks_read
  all_goals cases hc

/-- Settles O36: answered for its count, for its values, or with what it reads. -/
theorem readOnlyDirectivesChangeNothing : Obligations.ReadOnlyDirectivesChangeNothing := by
  intro c d s hc h
  rw [exec_row]
  by_cases hn : d.length.toNat = c.argCount
  · have accepted : Accepted c d s := ⟨h, .inl hc, hn⟩
    cases he : c.checks d.args s with
    | none => exact ⟨_, _, executeCommand_bad_value accepted he⟩
    | some effect =>
      obtain ⟨words, rfl⟩ := Command.checks_read hc _ _ _ he
      exact ⟨_, _, executeCommand_reads accepted hc he⟩
  · exact ⟨_, _, executeCommand_wrong_count h (.inl hc) hn⟩

/-! ### Authority -/

/-- A modifying command fails the authority check from a port that is not the manager port, and with no manager port from a
port that is HALTED (R132, R141, R142). -/
theorem authorityFails_eq_true {c : Command} {d : Directive} {s : State} (hc : c.readOnly = false)
    (h : (∃ m, s.manager = some m ∧ m ≠ d.origin) ∨ (s.manager = none ∧ (s.port d.origin).link = .halted)) :
    authorityFails c d s = true := by
  obtain ⟨m, hm, hne⟩ | ⟨hm, hl⟩ := h
  · simp [authorityFails, hc, hm, hne]
  · simp [authorityFails, hc, hm, hl]

/-- Settles O37: such a command fails the authority check, which comes before all others. -/
theorem othersThanTheManagerAreRefused : Obligations.OthersThanTheManagerAreRefused := by
  intro c d s hc h ha
  rw [exec_row]
  exact executeCommand_unauthorised h (authorityFails_eq_true hc ha)

/-! ### Deferred actions -/

/-- A deferred action waits in the tail of the pending actions with the reply it is tied to (R135). -/
theorem deliver_okDeferred_up {d : Directive} {k : ActionKind} {s : State} (h : (s.port d.origin).link = .up) :
    deliver d (okDeferred k s) =
      { s with mgmt := .replyHeld d.origin ⟨⟨d.tag, 0x00#8, []⟩, true⟩, actions := s.actions ++ [⟨k, d.origin⟩] } :=
  if_pos ((isUp_iff s d.origin).2 h)

/-- With an origin that is not UP there is no reply to wait for (R137). -/
theorem deliver_okDeferred_down {d : Directive} {k : ActionKind} {s : State} (h : (s.port d.origin).link ≠ .up) :
    deliver d (okDeferred k s) = takeActions [⟨k, d.origin⟩] { s with mgmt := .idle } :=
  if_neg fun hu => h ((isUp_iff s d.origin).1 hu)

/-- A directive that is to be deferred does nothing else, and its reply ties the action (R135, R137). -/
theorem executeCommand_deferred {c : Command} {k : ActionKind} {d : Directive} {s : State} {checks : ValueChecks}
    (h : Accepted c d s) (hc : c.readOnly = false) (he : checks d.args s = some (okDeferred k)) :
    ((s.port d.origin).link = .up →
      executeCommand c checks s =
        .next (settle { claimedBy d s with mgmt := .replyHeld d.origin ⟨⟨d.tag, 0x00#8, []⟩, true⟩
                                           actions := s.actions ++ [⟨k, d.origin⟩] })) ∧
    ((s.port d.origin).link ≠ .up →
      executeCommand c checks s = .next (settle (takeActions [⟨k, d.origin⟩] { claimedBy d s with mgmt := .idle }))) := by
  rw [executeCommand_modifying h hc he]
  exact ⟨fun hu => by rw [deliver_okDeferred_up (s := claimedBy d s) hu]; rfl,
    fun hu => by rw [deliver_okDeferred_down (s := claimedBy d s) hu]⟩

/-- Settles O44: the value checks of the four commands give their deferred actions. -/
theorem deferredDirectivesWaitForTheirReply : Obligations.DeferredDirectivesWaitForTheirReply := by
  intro c k d s h hk
  rw [exec_row]
  obtain ⟨p, w, ha, hw, ⟨rfl, rfl⟩ | ⟨rfl, rfl⟩⟩ | ⟨ha, rfl, rfl⟩ | ⟨n, w, ha, hw, rfl, rfl⟩ := hk
  · exact executeCommand_deferred h rfl (portArg_port s ha hw)
  · exact executeCommand_deferred h rfl (portArg_port s ha hw)
  · exact executeCommand_deferred h rfl (noArgs_nil s ha)
  · refine executeCommand_deferred h rfl ?_
    show setNodeChecks d.args s = _
    rw [ha, setNodeChecks, nodeOfNat_val hw]
    rfl

end Sys2Proof.Machine
end

end

section
/-! CERTIFICATE. The directives that set a value at once: SET_QUOTA, SET_DEADLINE, SET_TOMBSTONE and SET_LOCK_LIMIT (R145, R154
to R156). -/

namespace Sys2Proof.Machine

open Sys2Proof

/-! ### Arguments in their ranges (R35) -/

theorem timeOf_some {w : Word} (hlow : 10 ≤ w.toNat) (hhigh : w.toNat ≤ 65535) : timeOf w = some w.toNat :=
  if_pos ⟨hlow, hhigh⟩

theorem timeArg_some {effect : Nat → State → DirResult} {w : Word} (s : State) (hlow : 10 ≤ w.toNat)
    (hhigh : w.toNat ≤ 65535) : timeArg effect [w] s = some (effect w.toNat) := by
  rw [timeArg, timeOf_some hlow hhigh, Option.map_some]

theorem quotaChecks_some {p : Port} {w q : Word} (s : State) (hw : w.toNat = p.val) (hlow : 1 ≤ q.toNat)
    (hhigh : q.toNat ≤ 64) : quotaChecks [w, q] s = some fun u => okDone (putQuota p q.toNat u) := by
  simp only [quotaChecks, portOfNat_val hw]
  exact if_pos ⟨hlow, hhigh⟩

theorem deadlineChecks_some {p : Port} {w t : Word} (s : State) (hw : w.toNat = p.val) (hlow : 10 ≤ t.toNat)
    (hhigh : t.toNat ≤ 65535) : deadlineChecks [w, t] s = some fun u => okDone (putDeadline p t.toNat u) := by
  simp only [deadlineChecks, portOfNat_val hw, timeOf_some hlow hhigh]

/-! ### The rows -/

/-- Settles O43: the arguments of each row pass its value checks, which give the one change of the settings. -/
theorem settingsAreSetAtOnce : Obligations.SettingsAreSetAtOnce := by
  refine ⟨fun p w q d s h ha hw hlow hhigh => ?quota, fun p w t d s h ha hw hlow hhigh => ?deadline,
    fun w d s h ha hlow hhigh => ?tombstone, fun w d s h ha hlow hhigh => ?lockLimit⟩
  case quota =>
    exact executeCommand_done (effect := putQuota p q.toNat) h rfl (ha ▸ quotaChecks_some s hw hlow hhigh)
  case deadline =>
    exact executeCommand_done (effect := putDeadline p t.toNat) h rfl (ha ▸ deadlineChecks_some s hw hlow hhigh)
  case tombstone =>
    exact executeCommand_done (effect := putTombstone w.toNat) h rfl (ha ▸ timeArg_some s hlow hhigh)
  case lockLimit =>
    exact executeCommand_done (effect := putHoldLimit w.toNat) h rfl (ha ▸ timeArg_some s hlow hhigh)

end Sys2Proof.Machine
end

section
-- One thread for all theorems: a thread for each takes a stack of its own, and there is no room for them all.
set_option Elab.async false

section
/-! CERTIFICATE. A raised fault: its number, its time stamp, and the policy by which its record is kept (R168 to R170, R177,
R187). -/

namespace Sys2Proof.Machine

open Sys2Proof

theorem routeCheck_eq (s : State) : routeCheck s = { s with alert := (routeCheck s).alert } := by
  unfold routeCheck
  split
  · split <;> rfl
  · rfl

/-- A raised alert changes the alert path alone (R177). -/
theorem raiseAlert_eq (s : State) : raiseAlert s = { s with alert := (raiseAlert s).alert } := by
  unfold raiseAlert
  split
  · unfold setPendingAlert
    split
    · rfl
    · exact routeCheck_eq _
  · rfl

/-- A report that is not kept takes its sequence number, and that is all (R168, R169). -/
theorem raiseFault_not_kept {r : FaultReport} {s : State} (h : isKept s.faultList.policy s.faultList.records = false) :
    raiseFault r s =
      { s with faultList := { s.faultList with
          records := keepRecord s.faultList.policy s.faultList.records (faultRecord r s)
          nextSeq := s.faultList.nextSeq + 1#16 } } := by
  simp [raiseFault, h]

/-- A list is full and keeps its oldest records exactly when a report is not kept (R169). -/
theorem isKept_eq_false_iff (policy : Policy) (records : List FaultRecord) :
    isKept policy records = false ↔ 32 ≤ records.length ∧ policy = .keepOldest := by
  rw [← Bool.not_eq_true, isKept_iff, not_or, Nat.not_lt]
  cases policy <;> simp

/-- Settles O34: a report that is kept has its record in the list, and one that is not leaves the records as they are. -/
theorem raisedFaultsAreNumberedAndKept : Obligations.RaisedFaultsAreNumberedAndKept := by
  intro r s
  cases hk : isKept s.faultList.policy s.faultList.records with
  | true =>
    refine ⟨_, true, (raiseAlert (withRecord r s)).alert, (raiseFault_kept hk).trans (raiseAlert_eq _),
      fun hroom => ⟨keepRecord_room hroom, rfl⟩, fun hfull hp => ?_, fun hfull hp => ⟨?_, rfl⟩⟩
    · rw [(isKept_eq_false_iff _ _).2 ⟨hfull, hp⟩] at hk
      cases hk
    · rw [hp]
      exact keepRecord_newest hfull
  | false =>
    obtain ⟨hfull, hp⟩ := (isKept_eq_false_iff _ _).1 hk
    refine ⟨_, s.fltLow, s.alert, raiseFault_not_kept hk, fun hroom => absurd hroom (Nat.not_lt.2 hfull),
      fun _ _ => ⟨?_, rfl, rfl⟩, fun _ hn => ?_⟩
    · rw [hp]
      exact keepRecord_oldest hfull
    · rw [hp] at hn
      cases hn

end Sys2Proof.Machine
end

section
/-! CERTIFICATE. The directives on the Fault List and the alert path: FAULT_POP, FAULT_POLICY, ALERT_SET and ALERT_ARM (R170,
R173, R175, R177, R180, R181). -/

namespace Sys2Proof.Machine

open Sys2Proof

/-! ### Arguments in their ranges (R35) -/

section

variable {w v : Word} (s : State)

/-- The sequence guard passes the number of the oldest record (R173). -/
theorem guardPasses_oldest {f : FaultRecord} {rest : List FaultRecord} (hl : s.faultList.records = f :: rest)
    (hv : f.seq.toNat = v.toNat) : guardPasses v s = true := by
  rw [guardPasses, hl]
  refine beq_iff_eq.2 (BitVec.eq_of_toNat_eq ?_)
  rw [BitVec.toNat_setWidth, hv, Nat.mod_eq_of_lt v.isLt]

theorem faultPopChecks_some {f : FaultRecord} {rest : List FaultRecord} (hlow : 1 ≤ w.toNat) (hhigh : w.toNat ≤ 32)
    (hl : s.faultList.records = f :: rest) (hv : f.seq.toNat = v.toNat) :
    faultPopChecks [w, v] s = some fun u => okDone (popFaults w.toNat u) := by
  have hseq : v.toNat ≤ 65535 := by
    have := f.seq.isLt
    omega
  rw [faultPopChecks, if_pos ⟨hlow, hhigh, hseq⟩, if_pos (guardPasses_oldest s hl hv)]

theorem faultPolicyChecks_some {p : Policy} (h : w = 0#32 ∧ p = .keepOldest ∨ w = 1#32 ∧ p = .keepNewest) :
    faultPolicyChecks [w] s = some fun u => okDone (putPolicy p u) := by
  obtain ⟨rfl, rfl⟩ | ⟨rfl, rfl⟩ := h <;> rfl

theorem alertSetChecks_noneWord : alertSetChecks [noneWord] s = some fun u => okDone (putAlertNode none u) :=
  rfl

theorem alertSetChecks_some {n : Node} (hw : w.toNat = n.val) (hn : n ≠ s.node) :
    alertSetChecks [w] s = some fun u => okDone (putAlertNode (some n) u) := by
  simp only [alertSetChecks, if_neg (ne_noneWord hw), nodeOfNat_val hw, if_neg hn]

end

/-! ### The effects -/

/-- FLT# stays low while a record is left (R170, R173). -/
theorem popFaults_of_low {s : State} (n : Nat) (hf : s.fltLow = true) :
    popFaults n s =
      { s with
        faultList := { s.faultList with records := s.faultList.records.drop n }
        fltLow := decide (n < s.faultList.records.length) } := by
  have left : (!(s.faultList.records.drop n).isEmpty) = decide (n < s.faultList.records.length) := by
    rw [Bool.eq_iff_iff]
    simp
  rw [popFaults, hf, left, Bool.true_and]

/-- The alert node that is held is set again (R180). -/
theorem putAlertNode_held {n : Node} {s : State} (h : s.settings.alertNode = some n) : putAlertNode (some n) s = s := by
  rw [putAlertNode, if_pos h.symm, ← h]

/-- Another alert node has its route checked (R178, R180). -/
theorem putAlertNode_changed {n : Node} {s : State} (h : s.settings.alertNode ≠ some n) :
    putAlertNode (some n) s = routeCheck { s with settings := { s.settings with alertNode := some n } } :=
  if_neg (Ne.symm h)

/-- Nothing to raise: the flag is set alone (R181). -/
theorem armAlert_idle {s : State} (h : s.faultList.records = [] ∨ s.settings.alertNode = none) :
    armAlert s = { s with alert := { s.alert with armed := true } } := by
  unfold armAlert
  dsimp only
  split
  · rfl
  · next hr =>
    have hn : s.settings.alertNode = none := h.resolve_left fun he => hr (by rw [he]; rfl)
    exact raiseAlert_off (s := { s with alert := { s.alert with armed := true } }) (.inr hn)

/-- Records are held: an alert is raised at once (R181). -/
theorem armAlert_raises {s : State} (h : s.faultList.records ≠ []) :
    armAlert s = raiseAlert { s with alert := { s.alert with armed := true } } :=
  if_neg fun he => h (List.isEmpty_iff.1 he)

/-- The alert that is raised joins one that is pending (R177, R181). -/
theorem armAlert_joins {s : State} (h : s.faultList.records ≠ []) (hn : s.settings.alertNode ≠ none)
    (hp : s.alert.pending = true) : armAlert s = { s with alert := { s.alert with armed := false } } := by
  obtain ⟨n, hset⟩ := Option.ne_none_iff_exists'.1 hn
  rw [armAlert_raises h, raiseAlert_pending_set (s := { s with alert := { s.alert with armed := true } }) rfl hset hp]
  simp [withPendingAlert, hp]

/-- The alert that is raised becomes pending, and its route is checked (R177, R181). -/
theorem armAlert_checks_route {s : State} (h : s.faultList.records ≠ []) (hn : s.settings.alertNode ≠ none)
    (hp : s.alert.pending = false) :
    armAlert s = routeCheck { s with alert := { s.alert with armed := false, pending := true } } := by
  obtain ⟨n, hset⟩ := Option.ne_none_iff_exists'.1 hn
  rw [armAlert_raises h, raiseAlert_pending_clear (s := { s with alert := { s.alert with armed := true } }) rfl hset hp]
  rfl

/-! ### The rows -/

theorem exec_faultPop {c q : Word} {f : FaultRecord} {rest : List FaultRecord} {d : Directive} {s : State}
    (h : Accepted .faultPop d s) (ha : d.args = [c, q]) (hlow : 1 ≤ c.toNat) (hhigh : c.toNat ≤ 32)
    (hl : s.faultList.records = f :: rest) (hq : f.seq.toNat = q.toNat) :
    exec .faultPop s = .next (settle (withReply d .ok [] (popFaults c.toNat (claimedBy d s)))) :=
  executeCommand_done h rfl (ha ▸ faultPopChecks_some s hlow hhigh hl hq)

theorem exec_faultPolicy {w : Word} {p : Policy} {d : Directive} {s : State} (h : Accepted .faultPolicy d s)
    (ha : d.args = [w]) (hp : w = 0#32 ∧ p = .keepOldest ∨ w = 1#32 ∧ p = .keepNewest) :
    exec .faultPolicy s = .next (settle (withReply d .ok [] (putPolicy p (claimedBy d s)))) :=
  executeCommand_done h rfl (ha ▸ faultPolicyChecks_some s hp)

theorem exec_alertSet_none {d : Directive} {s : State} (h : Accepted .alertSet d s) (ha : d.args = [noneWord]) :
    exec .alertSet s = .next (settle (withReply d .ok [] (putAlertNode none (claimedBy d s)))) :=
  executeCommand_done h rfl (ha ▸ alertSetChecks_noneWord s)

theorem exec_alertSet_node {w : Word} {n : Node} {d : Directive} {s : State} (h : Accepted .alertSet d s)
    (ha : d.args = [w]) (hw : w.toNat = n.val) (hn : n ≠ s.node) :
    exec .alertSet s = .next (settle (withReply d .ok [] (putAlertNode (some n) (claimedBy d s)))) :=
  executeCommand_done h rfl (ha ▸ alertSetChecks_some s hw hn)

theorem exec_alertArm {d : Directive} {s : State} (h : Accepted .alertArm d s) (ha : d.args = []) :
    exec .alertArm s = .next (settle (withReply d .ok [] (armAlert (claimedBy d s)))) :=
  executeCommand_done h rfl (noArgs_nil s ha)

/-- Settles O48: each row executes its one effect on the claimed state, which has the Fault List, the settings and the alert path
of the state before. -/
theorem faultAndAlertDirectives : Obligations.FaultAndAlertDirectives := by
  refine ⟨fun c q f rest d s h ha hlow hhigh hl hq hf => ?pop, fun w p d s h ha hp => exec_faultPolicy h ha hp,
    fun w d s h ha => ⟨?unset, fun n hw hn => ⟨fun held => ?held, fun changed => ?changed⟩⟩,
    fun d s h ha => ⟨fun idle => ?idle, fun hr hn => ⟨fun joined => ?joined, fun newly => ?newly⟩⟩⟩
  case pop =>
    rw [exec_faultPop h ha hlow hhigh hl hq, popFaults_of_low (s := claimedBy d s) c.toNat hf]
    rfl
  case unset =>
    rintro rfl
    exact exec_alertSet_none h ha
  case held => rw [exec_alertSet_node h ha hw hn, putAlertNode_held (s := claimedBy d s) held]
  case changed =>
    rw [exec_alertSet_node h ha hw hn, putAlertNode_changed (s := claimedBy d s) changed]
    rfl
  case idle =>
    rw [exec_alertArm h ha, armAlert_idle (s := claimedBy d s) idle]
    rfl
  case joined =>
    rw [exec_alertArm h ha, armAlert_joins (s := claimedBy d s) hr hn joined]
    rfl
  case newly =>
    rw [exec_alertArm h ha, armAlert_checks_route (s := claimedBy d s) hr hn newly]
    rfl

end Sys2Proof.Machine
end

section
/-! CERTIFICATE. The law of the Fault List, which every step keeps: reports are raised, FAULT_POP removes the oldest records, and
the edges of RST# empty the list (R169, R170, R173, R182). -/

namespace Sys2Proof.Machine

open Sys2Proof

/-- The law is kept from `s` to `t`. -/
def KeepsFaultListLaw (s t : State) : Prop := FaultListLaw s → FaultListLaw t

theorem KeepsFaultListLaw.refl (s : State) : KeepsFaultListLaw s s := id

theorem KeepsFaultListLaw.trans {s t u : State} (h : KeepsFaultListLaw s t) (k : KeepsFaultListLaw t u) :
    KeepsFaultListLaw s u :=
  k ∘ h

/-- The law reads the records and FLT# alone. -/
theorem keepsFaultListLaw_of_same {s t : State} (hr : t.faultList.records = s.faultList.records := by rfl)
    (hf : t.fltLow = s.fltLow := by rfl) : KeepsFaultListLaw s t := by
  unfold KeepsFaultListLaw FaultListLaw
  rw [hr, hf]
  exact id

/-- A change of other blocks before. -/
theorem KeepsFaultListLaw.after {s u t : State} (h : KeepsFaultListLaw u t)
    (hr : u.faultList.records = s.faultList.records := by rfl) (hf : u.fltLow = s.fltLow := by rfl) :
    KeepsFaultListLaw s t :=
  (keepsFaultListLaw_of_same hr hf).trans h

/-- A change of other blocks after. -/
theorem KeepsFaultListLaw.before {s u t : State} (h : KeepsFaultListLaw s u)
    (hr : t.faultList.records = u.faultList.records := by rfl) (hf : t.fltLow = u.fltLow := by rfl) :
    KeepsFaultListLaw s t :=
  h.trans (keepsFaultListLaw_of_same hr hf)

/-! ### The changes of the Fault List -/

/-- A record joins a list with room or takes the place of the oldest, and FLT# is low with it; otherwise neither changes (R169,
R170). -/
theorem keepsFaultListLaw_raiseFault (r : FaultReport) (s : State) : KeepsFaultListLaw s (raiseFault r s) := by
  rintro ⟨hlen, hflt⟩
  obtain ⟨records, flt, alert, he, room, oldest, newest⟩ := raisedFaultsAreNumberedAndKept r s
  rw [he]
  by_cases hroom : s.faultList.records.length < 32
  · obtain ⟨rfl, rfl⟩ := room hroom
    exact ⟨by simpa using hroom, by simp⟩
  · have hfull : 32 ≤ s.faultList.records.length := Nat.not_lt.1 hroom
    cases hp : s.faultList.policy with
    | keepOldest =>
      obtain ⟨rfl, rfl, -⟩ := oldest hfull hp
      exact ⟨hlen, hflt⟩
    | keepNewest =>
      obtain ⟨rfl, rfl⟩ := newest hfull hp
      refine ⟨?_, by simp⟩
      rw [List.length_append, List.length_tail, List.length_singleton]
      omega

/-- FLT# is released with the last record that is removed (R170, R173). -/
theorem keepsFaultListLaw_popFaults (n : Nat) (s : State) : KeepsFaultListLaw s (popFaults n s) := by
  rintro ⟨hlen, hflt⟩
  refine ⟨?_, ?_⟩
  · rw [popFaults, List.length_drop]
    omega
  · rw [popFaults, hflt]
    cases s.faultList.records <;> simp

theorem faultListLaw_assertReset (s : State) : FaultListLaw (assertReset s) := ⟨Nat.zero_le 32, rfl⟩

theorem faultListLaw_cold (n : Node) (m : Option Port) : FaultListLaw (State.cold n m) := ⟨Nat.zero_le 32, rfl⟩

/-! ### Examinations -/

theorem keepsFaultListLaw_offerAnswer (x : Port) (res : Option Resolution) (a : Reply) (s : State) :
    KeepsFaultListLaw s (offerAnswer x res a s) :=
  keepsFaultListLaw_of_same (by simp) (by simp)

theorem keepsFaultListLaw_dropWithFault (x : Port) (r : FaultReport) (s : State) :
    KeepsFaultListLaw s (dropWithFault x r s) :=
  (keepsFaultListLaw_raiseFault r s).before

theorem keepsFaultListLaw_stopHead (x : Port) (res : Option Resolution) (h : Request) (st : Status) (r : FaultReport)
    (s : State) : KeepsFaultListLaw s (stopHead x res h st r s) := by
  unfold stopHead
  split
  · exact keepsFaultListLaw_dropWithFault x r s
  · exact keepsFaultListLaw_offerAnswer x res _ s

theorem keepsFaultListLaw_stopByFence (x : Port) (res : Option Resolution) (h : Request) (s : State) :
    KeepsFaultListLaw s (stopByFence x res h s) := by
  unfold stopByFence
  split
  · exact keepsFaultListLaw_of_same
  · exact keepsFaultListLaw_offerAnswer x res _ s

theorem keepsFaultListLaw_stopMalformed (x : Port) (h : Request) (m : Malformation) (s : State) :
    KeepsFaultListLaw s (stopMalformed x h m s) := by
  unfold stopMalformed
  split
  · exact keepsFaultListLaw_dropWithFault x _ s
  · exact keepsFaultListLaw_offerAnswer x none _ s

theorem keepsFaultListLaw_lockOrOffer (x : Port) (res : Resolution) (s : State) :
    KeepsFaultListLaw s (lockOrOffer x res s) := by
  unfold lockOrOffer
  split <;> exact keepsFaultListLaw_of_same

theorem keepsFaultListLaw_outputChecks (x : Port) (h : Request) (res : Resolution) (s : State) :
    KeepsFaultListLaw s (outputChecks x h res s) := by
  unfold outputChecks
  split
  · exact keepsFaultListLaw_lockOrOffer x res s
  · split
    · exact keepsFaultListLaw_lockOrOffer x res s
    · exact keepsFaultListLaw_stopHead x _ h _ _ s

theorem keepsFaultListLaw_decideClaim (x : Port) (i : Fin 48) (s : State) :
    KeepsFaultListLaw s (decideClaim x i s).2 := by
  unfold decideClaim
  split
  · exact keepsFaultListLaw_of_same
  · split
    · exact .refl s
    · split
      · exact keepsFaultListLaw_of_same
      · exact .refl s

theorem keepsFaultListLaw_decideRelease (x : Port) (i : Fin 48) (s : State) :
    KeepsFaultListLaw s (decideRelease x i s).2 := by
  unfold decideRelease
  split
  · exact keepsFaultListLaw_of_same
  · exact .refl s

theorem keepsFaultListLaw_answerPathLock (x : Port) (h : Request) (i : Fin 48) (d : Port) (out : Addr) (s : State) :
    KeepsFaultListLaw s (answerPathLock x h i d out s) := by
  unfold answerPathLock refuse
  refine KeepsFaultListLaw.trans ?_ (keepsFaultListLaw_offerAnswer x _ _ _)
  split
  · exact keepsFaultListLaw_decideClaim x i s
  · exact keepsFaultListLaw_decideRelease x i s

theorem keepsFaultListLaw_resolveAddress (x : Port) (h : Request) (s : State) :
    KeepsFaultListLaw s (resolveAddress x h s) := by
  unfold resolveAddress
  dsimp only
  split
  · exact keepsFaultListLaw_stopHead x _ h _ _ s
  · exact keepsFaultListLaw_stopHead x _ h _ _ s
  · split
    · exact keepsFaultListLaw_answerPathLock x h _ _ _ s
    · exact keepsFaultListLaw_outputChecks x h _ s

theorem keepsFaultListLaw_stopByHopLimit (x : Port) (h : Request) (s : State) :
    KeepsFaultListLaw s (stopByHopLimit x h s) := by
  unfold stopByHopLimit
  split
  · exact keepsFaultListLaw_dropWithFault x _ s
  · exact (keepsFaultListLaw_raiseFault _ s).trans (keepsFaultListLaw_offerAnswer x _ _ _)

theorem keepsFaultListLaw_resolveForward (x : Port) (h : Request) (s : State) :
    KeepsFaultListLaw s (resolveForward x h s) := by
  unfold resolveForward
  dsimp only
  split
  · exact keepsFaultListLaw_outputChecks x h _ s
  · exact keepsFaultListLaw_stopHead x _ h _ _ s

theorem keepsFaultListLaw_resolveNode (x : Port) (h : Request) (s : State) : KeepsFaultListLaw s (resolveNode x h s) := by
  unfold resolveNode
  split
  · split
    · exact keepsFaultListLaw_dropWithFault x _ s
    · exact keepsFaultListLaw_of_same
  · split
    · exact keepsFaultListLaw_stopByHopLimit x h s
    · exact keepsFaultListLaw_resolveForward x h s

theorem keepsFaultListLaw_examineHead (x : Port) (s : State) : KeepsFaultListLaw s (examineHead x s) := by
  unfold examineHead
  split
  · exact keepsFaultListLaw_of_same
  · split
    · exact keepsFaultListLaw_stopByFence x none _ s
    · split
      · exact keepsFaultListLaw_stopMalformed x _ _ s
      · split
        · exact keepsFaultListLaw_resolveNode x _ s
        · exact keepsFaultListLaw_resolveAddress x _ s

theorem keepsFaultListLaw_recheckHeld (x : Port) (h : Request) (res : Resolution) (s : State) :
    KeepsFaultListLaw s (recheckHeld x h res s) := by
  unfold recheckHeld
  split
  · exact keepsFaultListLaw_stopByFence x _ h s
  · exact keepsFaultListLaw_outputChecks x h res s

theorem keepsFaultListLaw_reexamineHead (x : Port) (s : State) : KeepsFaultListLaw s (reexamineHead x s) := by
  unfold reexamineHead
  dsimp only
  split
  · exact keepsFaultListLaw_recheckHeld x _ _ s
  · exact keepsFaultListLaw_recheckHeld x _ _ s
  · exact keepsFaultListLaw_of_same

/-! ### Choices of the arbiters, which raise no fault -/

theorem keepsFaultListLaw_placeReply (s : State) : KeepsFaultListLaw s (placeReply s) := by
  unfold placeReply
  split <;> exact keepsFaultListLaw_of_same

theorem keepsFaultListLaw_grantM (s : State) : KeepsFaultListLaw s (grantM s) := by
  unfold grantM
  split
  · exact .refl s
  · split <;> exact keepsFaultListLaw_of_same

theorem keepsFaultListLaw_giveSlot (x : Port) (s : State) : KeepsFaultListLaw s (giveSlot x s) := by
  obtain ⟨i, e, st, -, -, -, h⟩ | ⟨p, r, i, e, -, -, h⟩ | ⟨res, a, -, h⟩ | ⟨q, -, h⟩ | h := giveSlot_cases x s <;>
    rw [h] <;> exact keepsFaultListLaw_of_same

theorem keepsFaultListLaw_sendReply (out : Port) (s : State) : KeepsFaultListLaw s (sendReply out s) := by
  unfold sendReply
  split
  · exact .refl s
  · exact (keepsFaultListLaw_giveSlot out _).after

theorem keepsFaultListLaw_tryInput (out : Port) (i : Fin 7) (s : State) :
    KeepsFaultListLaw s (tryInput out i s).state := by
  unfold tryInput
  split
  · split <;> exact keepsFaultListLaw_of_same
  · split
    · exact .refl s
    · split
      · exact keepsFaultListLaw_of_same
      · split
        · exact keepsFaultListLaw_of_same
        · exact keepsFaultListLaw_offerAnswer _ _ _ s
        · exact .refl s

theorem keepsFaultListLaw_tryInputs (out : Port) (order : List (Fin 7)) (s : State) :
    KeepsFaultListLaw s (tryInputs out order s) := by
  induction order generalizing s with
  | nil => exact .refl s
  | cons i rest ih =>
    have first := keepsFaultListLaw_tryInput out i s
    unfold tryInputs
    split
    · split
      · next t e => rwa [e] at first
      · next t e => rw [e] at first; exact first.trans (ih t)
    · exact ih s

theorem keepsFaultListLaw_chooseNext (out : Port) (s : State) : KeepsFaultListLaw s (chooseNext out s) := by
  unfold chooseNext
  split
  · exact keepsFaultListLaw_sendReply out s
  · split
    · exact keepsFaultListLaw_tryInputs out _ s
    · exact keepsFaultListLaw_of_same

theorem keepsFaultListLaw_doInternal (a : Internal) (s : State) : KeepsFaultListLaw s (doInternal a s) := by
  cases a with
  | examine x => exact keepsFaultListLaw_examineHead x s
  | reexamine x => exact keepsFaultListLaw_reexamineHead x s
  | placeReply => exact keepsFaultListLaw_placeReply s
  | grantM => exact keepsFaultListLaw_grantM s
  | choose x => exact keepsFaultListLaw_chooseNext x s

theorem keepsFaultListLaw_settle (s : State) : KeepsFaultListLaw s (settle s) :=
  settle_keeps (KeepsFaultListLaw s) s (.refl s) fun a u k hu _ =>
    hu.trans (keepsFaultListLaw_doInternal a { u with freeUsed := k }).after

/-! ### Link loss, resets and deferred actions -/

theorem keepsFaultListLaw_routeCheck (s : State) : KeepsFaultListLaw s (routeCheck s) :=
  keepsFaultListLaw_of_same (by simp) (by simp)

theorem keepsFaultListLaw_breakRecord (cause : BreakCause) (r : Fin 4) (s : State) :
    KeepsFaultListLaw s (breakRecord cause r s) := by
  unfold breakRecord
  split
  · exact .refl s
  · exact (keepsFaultListLaw_raiseFault _ (setLock r none s)).before.after

theorem keepsFaultListLaw_breakHeldBy (x : Port) (cause : BreakCause) (s : State) :
    KeepsFaultListLaw s (breakHeldBy x cause s) :=
  breakHeldBy_keeps (KeepsFaultListLaw s) x cause s (.refl s) fun r u hu =>
    hu.trans (keepsFaultListLaw_breakRecord cause r u)

theorem keepsFaultListLaw_lossAtTracking (x : Port) (s : State) : KeepsFaultListLaw s (lossAtTracking x s) := by
  obtain ⟨ports, track, h⟩ := (noticeFrame_lossAtEntries x (List.finRange 64) s).blocks
  rw [lossAtTracking_eq, h]
  exact keepsFaultListLaw_of_same

theorem keepsFaultListLaw_lossEnded (x : Port) (s : State) : KeepsFaultListLaw s (lossEnded x s) := by
  obtain ⟨alert, mgmt, h⟩ := lossEnded_blocks x s
  rw [h]
  exact keepsFaultListLaw_of_same

theorem keepsFaultListLaw_withActions (s : State) (l : List PendingAction) :
    KeepsFaultListLaw s { s with actions := l } :=
  keepsFaultListLaw_of_same

/-- A loss raises its own fault and those of its breaks; what follows them leaves the Fault List (R20, R116). -/
theorem keepsFaultListLaw_loseLink (x : Port) (cause : LossCause) (s : State) :
    KeepsFaultListLaw s (loseLink x cause s) := by
  have own : KeepsFaultListLaw s (lossBegun x cause s) := (keepsFaultListLaw_raiseFault _ _).after
  have breaks : KeepsFaultListLaw (lossBegun x cause s) (lossBroken x cause s) :=
    (keepsFaultListLaw_lossAtTracking x _).trans (keepsFaultListLaw_breakHeldBy x _ _)
  have rest : KeepsFaultListLaw (lossBroken x cause s) (lossState x cause s) :=
    lossState_eq x cause s ▸ keepsFaultListLaw_lossEnded x _
  exact ((own.trans breaks).trans rest).trans (keepsFaultListLaw_withActions _ _)

theorem keepsFaultListLaw_warmReset (s : State) : KeepsFaultListLaw s (warmReset s) := by
  obtain ⟨ports, -, h⟩ := warmReset_eq s
  rw [h]
  exact (keepsFaultListLaw_raiseFault _ _).after (by rw [withdrawNote_faultList]; rfl) (by rw [withdrawNote_fltLow]; rfl)

theorem keepsFaultListLaw_moveNode (n : Node) (s : State) : KeepsFaultListLaw s (moveNode n s) := by
  unfold moveNode
  split
  · exact .refl s
  · exact (keepsFaultListLaw_routeCheck _).after

theorem keepsFaultListLaw_enterTraining (p : Port) (s : State) : KeepsFaultListLaw s (enterTraining p s) :=
  keepsFaultListLaw_of_same

theorem keepsFaultListLaw_enablePort (q : Port) (s : State) : KeepsFaultListLaw s (enablePort q s) := by
  unfold enablePort
  split
  · exact keepsFaultListLaw_enterTraining q s
  · exact keepsFaultListLaw_enterTraining q s
  · exact .refl s

theorem keepsFaultListLaw_disablePort (q : Port) (s : State) : KeepsFaultListLaw s (disablePort q s).1 := by
  unfold disablePort
  split
  · exact .refl s
  · exact keepsFaultListLaw_loseLink q _ s
  · exact keepsFaultListLaw_of_same

theorem keepsFaultListLaw_restartPort (q : Port) (s : State) : KeepsFaultListLaw s (restartPort q s).1 := by
  unfold restartPort
  split
  · exact keepsFaultListLaw_enterTraining q s
  · exact keepsFaultListLaw_loseLink q _ s
  · exact .refl s

theorem keepsFaultListLaw_takeActions (work : List PendingAction) (s : State) :
    KeepsFaultListLaw s (takeActions work s) :=
  takeActions_keeps (KeepsFaultListLaw s) work s (.refl s) (fun u hu => hu.trans (keepsFaultListLaw_warmReset u))
    (fun n u hu => hu.trans (keepsFaultListLaw_moveNode n u))
    (fun q u hu => hu.trans (keepsFaultListLaw_disablePort q u))
    (fun q u hu => hu.trans (keepsFaultListLaw_restartPort q u))

theorem keepsFaultListLaw_linkLoss (x : Port) (cause : LossCause) (s : State) :
    KeepsFaultListLaw s (linkLoss x cause s) :=
  (keepsFaultListLaw_loseLink x cause s).trans (keepsFaultListLaw_takeActions _ _)

theorem keepsFaultListLaw_releaseAction (x : Port) (s : State) : KeepsFaultListLaw s (releaseAction x s) := by
  unfold releaseAction
  split
  · exact .refl s
  · exact (keepsFaultListLaw_takeActions _ _).after

/-! ### The links -/

theorem keepsFaultListLaw_acceptHello (p : Port) (node : Node) (offers : LanePair) (f : Bool) (s : State) :
    KeepsFaultListLaw s (acceptHello p node offers f s) := by
  cases h : (s.port p).seen || f with
  | false => rw [acceptHello_unseen h]; exact keepsFaultListLaw_of_same
  | true => rw [acceptHello_seen h]; exact (keepsFaultListLaw_routeCheck _).after

theorem keepsFaultListLaw_firstOfTraining (p : Port) (n : Node) (a b : Byte) (f : Bool) (s : State) :
    KeepsFaultListLaw s (firstOfTraining p n a b f s) := by
  unfold firstOfTraining
  split
  · exact keepsFaultListLaw_acceptHello p n _ f s
  · exact .refl s

theorem keepsFaultListLaw_receiveRequest (p : Port) (c : Credits) (r : Request) (s : State) :
    KeepsFaultListLaw s (receiveRequest p c r s) := by
  unfold receiveRequest
  dsimp only
  split
  · exact keepsFaultListLaw_of_same
  · exact (keepsFaultListLaw_linkLoss p _ _).after

theorem keepsFaultListLaw_receiveReply (p : Port) (c : Credits) (r : Reply) (s : State) :
    KeepsFaultListLaw s (receiveReply p c r s) := by
  unfold receiveReply
  dsimp only
  split
  · exact keepsFaultListLaw_of_same
  · exact (keepsFaultListLaw_linkLoss p _ _).after

theorem keepsFaultListLaw_noteLeft (p : Port) (s : State) : KeepsFaultListLaw s (noteLeft p s) := by
  unfold noteLeft
  split
  · exact .refl s
  · split
    · exact (keepsFaultListLaw_routeCheck _).after
    · exact .refl s

theorem keepsFaultListLaw_parcelGone (p : Port) (t : Transmission) (s : State) :
    KeepsFaultListLaw s (parcelGone p t s) := by
  unfold parcelGone
  dsimp only
  have left : KeepsFaultListLaw s (noteLeft p (s.modifyPort p fun r => { r with tx := none })) :=
    (keepsFaultListLaw_noteLeft p _).after
  split
  · exact (left.trans (keepsFaultListLaw_releaseAction p _)).before
  · exact left.before

theorem keepsFaultListLaw_discardReply (p : Port) (k : FaultKind) (r : Reply) (s : State) :
    KeepsFaultListLaw s (discardReply p k r s) :=
  (keepsFaultListLaw_raiseFault _ s).before

theorem keepsFaultListLaw_relayOrHold (p : Port) (r : Reply) (i : Fin 64) (e : TrackEntry) (s : State) :
    KeepsFaultListLaw s (relayOrHold p r i e s) := by
  unfold relayOrHold
  split <;> exact keepsFaultListLaw_of_same

theorem keepsFaultListLaw_judgeReply (p : Port) (r : Reply) (i : Fin 64) (s : State) :
    KeepsFaultListLaw s (judgeReply p r i s) := by
  unfold judgeReply
  split
  · exact keepsFaultListLaw_discardReply p _ r s
  · split
    · split
      · exact keepsFaultListLaw_relayOrHold p r i _ s
      · exact .refl s
      · exact keepsFaultListLaw_of_same
      · exact keepsFaultListLaw_discardReply p _ r s
      · exact keepsFaultListLaw_discardReply p _ r s
    · exact keepsFaultListLaw_discardReply p _ r s

/-! ### The timers -/

theorem keepsFaultListLaw_haltPort (p : Port) (s : State) : KeepsFaultListLaw s (haltPort p s) := by
  unfold haltPort loseManager
  have halted : KeepsFaultListLaw s (raiseFault { kind := .linkHalted, port := some p } (enterHalted p s)) :=
    (keepsFaultListLaw_raiseFault _ _).after
  split
  · exact halted.trans (keepsFaultListLaw_raiseFault _ _).after
  · exact halted

theorem keepsFaultListLaw_endAttempt (p : Port) (s : State) : KeepsFaultListLaw s (endAttempt p s) := by
  unfold endAttempt
  split
  · dsimp only
    split
    · exact keepsFaultListLaw_of_same
    · exact (keepsFaultListLaw_haltPort p _).after
  · exact keepsFaultListLaw_of_same

theorem keepsFaultListLaw_placeSynth (i : Fin 64) (e : TrackEntry) (st : OwedStatus) (s : State) :
    KeepsFaultListLaw s (placeSynth i e st s) := by
  unfold placeSynth
  split
  · split <;> exact keepsFaultListLaw_of_same
  · exact keepsFaultListLaw_of_same

/-! ### Directives -/

theorem keepsFaultListLaw_setFence (p : Port) (s : State) : KeepsFaultListLaw s (setFence p s) := by
  unfold setFence
  split
  · exact .refl s
  · exact (keepsFaultListLaw_breakHeldBy p .fence (s.modifyPort p fun r => { r with fenced := true })).before.after

theorem keepsFaultListLaw_commitTable (s : State) : KeepsFaultListLaw s (commitTable s).state := by
  unfold commitTable
  split
  · exact .refl s
  · split <;> exact keepsFaultListLaw_of_same

theorem keepsFaultListLaw_writeNode (n : Node) (e : NodeEntry) (s : State) : KeepsFaultListLaw s (writeNode n e s) := by
  unfold writeNode
  split
  · exact .refl s
  · exact (keepsFaultListLaw_routeCheck _).after

theorem keepsFaultListLaw_putAlertNode (v : Option Node) (s : State) : KeepsFaultListLaw s (putAlertNode v s) := by
  unfold putAlertNode
  dsimp only
  split
  · exact keepsFaultListLaw_of_same
  · split
    · exact keepsFaultListLaw_of_same
    · exact (keepsFaultListLaw_routeCheck _).after

theorem keepsFaultListLaw_armAlert (s : State) : KeepsFaultListLaw s (armAlert s) := by
  unfold armAlert
  dsimp only
  split
  · exact keepsFaultListLaw_of_same
  · exact keepsFaultListLaw_of_same (by simp) (by simp)

/-- Every effect that a command may have keeps the law: FAULT_POP and the breaks of locks alone change the Fault List's
records. -/
theorem DirectiveEffect.keepsFaultListLaw {s : State} {effect : State → DirResult} (h : DirectiveEffect s effect)
    (u : State) : KeepsFaultListLaw u (effect u).state := by
  cases h with
  | enabled p => exact keepsFaultListLaw_enablePort p u
  | fenced p => exact keepsFaultListLaw_setFence p u
  | committed => exact keepsFaultListLaw_commitTable u
  | lockBroken r => exact keepsFaultListLaw_breakRecord .directive r u
  | nodeWritten n e _ _ => exact keepsFaultListLaw_writeNode n e u
  | faultsPopped n => exact keepsFaultListLaw_popFaults n u
  | alertNodeSet v => exact keepsFaultListLaw_putAlertNode v u
  | alertArmed => exact keepsFaultListLaw_armAlert u
  | _ => exact keepsFaultListLaw_of_same

theorem keepsFaultListLaw_claimManager (c : Command) (d : Directive) (s : State) :
    KeepsFaultListLaw s (claimManager c d s) := by
  unfold claimManager
  split <;> exact keepsFaultListLaw_of_same

theorem keepsFaultListLaw_runCommand (c : Command) (d : Directive) (s : State) :
    KeepsFaultListLaw s (runCommand c c.checks d s).state := by
  unfold runCommand
  split
  · exact .refl s
  · split
    · exact .refl s
    · split
      · exact .refl s
      · next effect he =>
        exact (keepsFaultListLaw_claimManager c d s).trans ((c.checks_give _ _ _ he).keepsFaultListLaw _)

theorem keepsFaultListLaw_deliver (d : Directive) (r : DirResult) : KeepsFaultListLaw r.state (deliver d r) := by
  unfold deliver
  split
  · exact keepsFaultListLaw_of_same
  · exact (keepsFaultListLaw_takeActions _ _).after

/-! ### Every command -/

theorem EventEffect.keepsFaultListLaw {s t : State} (h : EventEffect s t) : KeepsFaultListLaw s t := by
  cases h with
  | helloDue p _ _ => exact keepsFaultListLaw_of_same
  | attemptEnded p _ _ => exact keepsFaultListLaw_endAttempt p s
  | helloAccepted p n a b f _ _ => exact keepsFaultListLaw_acceptHello p n _ f s
  | peerRestarted p n a b _ =>
    exact (keepsFaultListLaw_linkLoss p _ s).trans (keepsFaultListLaw_firstOfTraining p n a b _ _)
  | damaged p _ => exact keepsFaultListLaw_linkLoss p _ s
  | requestReceived p c r _ => exact keepsFaultListLaw_receiveRequest p c r s
  | replyReceived p c r _ => exact keepsFaultListLaw_receiveReply p c r s
  | creditReceived p c _ => exact keepsFaultListLaw_of_same
  | unknownKindReceived p _ => exact keepsFaultListLaw_raiseFault _ s
  | parcelLeft p t _ => exact keepsFaultListLaw_parcelGone p t s
  | replyStray p r rest _ _ => exact keepsFaultListLaw_discardReply p _ r s
  | replyJudged p r rest i _ _ => exact keepsFaultListLaw_judgeReply p r i s
  | deadline i e _ _ _ => exact (keepsFaultListLaw_raiseFault _ s).trans (keepsFaultListLaw_placeSynth i e _ _)
  | orphanDeadline i e _ _ _ => exact keepsFaultListLaw_of_same
  | tombstoneEnded i e _ _ _ => exact keepsFaultListLaw_of_same
  | holdEnded r l _ _ => exact keepsFaultListLaw_breakRecord _ r s
  | executed c d _ _ => exact (keepsFaultListLaw_runCommand c d s).trans (keepsFaultListLaw_deliver d _)
  | executedUnknown d _ _ => exact keepsFaultListLaw_deliver d (reply .badCommand [] s)

theorem CommandEffect.keepsFaultListLaw {s t : State} (h : CommandEffect s t) : KeepsFaultListLaw s t := by
  cases h with
  | none => exact .refl s
  | resetAsserted _ => exact fun _ => faultListLaw_assertReset s
  | resetReleased n m _ => exact fun _ => faultListLaw_cold n m
  | ticked _ => exact keepsFaultListLaw_of_same
  | event u _ hu => exact hu.keepsFaultListLaw.trans (keepsFaultListLaw_settle u)

/-- Settles O53: whatever the step's command comes to keeps the law. -/
theorem everyStepKeepsTheFaultListLaw : Obligations.EveryStepKeepsTheFaultListLaw := by
  intro s t hs h
  obtain ⟨queue, heffect⟩ := step_effect h
  exact heffect.keepsFaultListLaw hs

end Sys2Proof.Machine
end

end

section
/-! CERTIFICATE. The edges of RST# with the straps, and the tick of the Time Base (R182 to R186). -/

namespace Sys2Proof.Machine

open Sys2Proof

/-! ### The rising edge -/

theorem strapManager_port {m : BitVec 3} (h : m.toNat ≤ 5) : ∃ p, strapManager m = some p ∧ p.val = m.toNat :=
  ⟨_, dif_pos (Nat.lt_succ_of_le h), rfl⟩

theorem strapManager_unset {m : BitVec 3} (h : 5 < m.toNat) : strapManager m = none := dif_neg (by omega)

/-- The straps name one of the 32 node numbers as it stands (R184). -/
theorem strapNode_val (n : BitVec 5) : (Fin.ofNat 32 n.toNat : Node).val = n.toNat := Nat.mod_eq_of_lt n.isLt

theorem State.cold_nodeTable (n : Node) (m : Option Port) (k : Node) :
    (State.cold n m).nodeTable[k] = if k = n then .self else .unreachable := by
  split
  · next h => exact (nodeLaw_cold n m k).2 h
  · next h =>
    have hv : n.val ≠ k.val := fun e => h (Fin.ext e.symm)
    simp [State.cold, hv]

/-- Both banks of the Window Table read as zero words (R45). -/
theorem State.cold_windows (n : Node) (m : Option Port) (i : Fin 48) :
    entryWords (State.cold n m).windows.active[i] = [0#32, 0#32, 0#32, 0#32] ∧
      entryWords (State.cold n m).windows.staging[i] = [0#32, 0#32, 0#32, 0#32] := by
  simp [State.cold, entryWords_zero]

theorem Settings.cold_origin (p : Port) : Settings.cold.quota[p] = 16 ∧ Settings.cold.deadline[p] = 4000 := by
  simp [Settings.cold, Config.defaultQuota, Config.defaultDeadline]

theorem coldPort_cold (n : Node) : ColdPort n (PortRec.cold n) := by
  unfold ColdPort
  and_intros <;> rfl

/-- The model's cold state is the table of R183, block by block. -/
theorem coldValues_cold (n : Node) (m : Option Port) : ColdValues n m (State.cold n m) :=
  have ports (p : Port) : ColdPort n ((State.cold n m).port p) := State.cold_port n m p ▸ coldPort_cold n
  ⟨rfl, rfl, rfl, rfl, rfl, State.cold_nodeTable n m, ports, rfl, State.cold_windows n m, rfl, State.cold_track n m,
    State.cold_locks n m, rfl, rfl, Settings.cold_origin, rfl, rfl, rfl, rfl, rfl, rfl, rfl, rfl, rfl⟩

theorem exec_coldResetRelease_low {s : State} (h : s.resetLow = true) (n : BitVec 5) (m : BitVec 3) :
    exec (.coldResetRelease n m) s =
      .next { State.cold (Fin.ofNat 32 n.toNat) (strapManager m) with pending := s.pending, freeUsed := s.freeUsed } :=
  if_pos h

theorem exec_coldResetRelease_high {s : State} (h : s.resetLow = false) (n : BitVec 5) (m : BitVec 3) :
    exec (.coldResetRelease n m) s = .next s :=
  if_neg (by simp [h])

/-- Settles O4: the rising edge gives the cold state of the straps, which has the values of the table. -/
theorem risingEdgeGivesColdValues : Obligations.RisingEdgeGivesColdValues := by
  refine ⟨fun n m s h => ?rising, fun n m s h => exec_coldResetRelease_high h n m, coldValues_cold 0 none, rfl⟩
  case rising =>
    exact ⟨_, exec_coldResetRelease_low h n m, rfl, Fin.ofNat 32 n.toNat, strapManager m, strapNode_val n,
      strapManager_port, strapManager_unset, coldValues_cold _ _⟩

/-! ### The falling edge -/

theorem whenRunning_low {s : State} (h : s.resetLow = true) (effect : State → State) : whenRunning s effect = .next s :=
  if_pos h

theorem noTraffic_resetPort (r : PortRec) : NoTraffic (resetPort r) := ⟨rfl, rfl, rfl, rfl, rfl, rfl⟩

theorem assertReset_track (s : State) (i : Fin 64) : (assertReset s).track[i] = none := by simp [assertReset]

theorem assertReset_locks (s : State) (r : Fin 4) : (assertReset s).locks[r] = none := by simp [assertReset]

/-- No port sends and no timer runs from the falling edge on (R182, R186). -/
theorem assertReset_ports (s : State) (p : Port) :
    NoTraffic ((assertReset s).port p) ∧ ((assertReset s).port p).tx = none ∧
      ((assertReset s).port p).helloTimer = none ∧ ((assertReset s).port p).attemptTimer = none := by
  rw [assertReset_port]
  exact ⟨noTraffic_resetPort _, rfl, rfl, rfl⟩

/-- While RST# is low no directive is executed (R182). -/
theorem exec_row_low {s : State} (h : s.resetLow = true) (c : Command) : exec c.row s = .next s := by
  rw [exec_row]
  exact whenRunning_low h _

/-- While RST# is low only its rising edge has an effect: a discarded parcel has none at all, and every other command takes
place only in a router that runs (R182). -/
theorem exec_low {s : State} (h : s.resetLow = true) (c : Instr) (hc : ∀ n m, c ≠ .coldResetRelease n m) :
    exec c s = .next s := by
  have row (k : ∃ k ∈ allCommands, c = k.row) : exec c s = .next s := by
    obtain ⟨k, -, rfl⟩ := k
    exact exec_row_low h k
  cases c
  case coldResetRelease n m => exact absurd rfl (hc n m)
  case parcelDiscardInactive | trainingParcelDiscard => rfl
  case coldResetAssert | timeBaseTick | helloTimerExpiry | attemptTimerExpiry | helloAccept | helloReceiveUp |
      damagedParcel | requestParcelReceive | replyParcelReceive | creditReceive | unknownKindReceive | parcelLeft |
      replyMatch | deadlineExpiry | orphanDeadlineExpiry | tombstoneExpiry | lockHoldExpiry | unknownCommand =>
    dsimp only [exec]
    exact whenRunning_low h _
  all_goals exact row (by decide)

/-- Settles O5: what the falling edge leaves, block by block, and that a router in reset waits for the rising edge. -/
theorem fallingEdgeStopsTheRouter : Obligations.FallingEdgeStopsTheRouter :=
  ⟨fun s h => ⟨assertReset s, whenRunning_high h assertReset, rfl, rfl, rfl, assertReset_ports s, assertReset_track s,
      assertReset_locks s, rfl, rfl, rfl, rfl, rfl, rfl⟩,
    fun c _ h hc => exec_low h c hc⟩

/-! ### The tick -/

theorem timed_iff (t : TrackState) : t.timed = true ↔ t = .active false ∨ t = .orphaned ∨ t = .tombstone := by
  cases t <;> simp [TrackState.timed]

theorem tick_track (s : State) (i : Fin 64) : (tick s).track[i] = s.track[i].map tickEntry := by simp [tick]

theorem tick_locks (s : State) (r : Fin 4) : (tick s).locks[r] = s.locks[r].map tickLock := by simp [tick]

theorem tickEntry_eq (e : TrackEntry) :
    tickEntry e =
      if e.state = .active false ∨ e.state = .orphaned ∨ e.state = .tombstone then { e with time := e.time - 1 }
      else e := by
  simp only [tickEntry, timed_iff]

/-- Settles O7: a tick maps the ports, the entries and the locks, each by its own timers. -/
theorem tickCountsRunningTimers : Obligations.TickCountsRunningTimers := by
  refine fun s h => ⟨_, _, _, whenRunning_high h tick, tick_port s, fun i e he => ?entry,
    fun i => (tick_track_eq_none_iff s i).2, tick_locks s⟩
  case entry => exact (tick_track s i).trans (by rw [he, Option.map_some, tickEntry_eq])

end Sys2Proof.Machine
end

section
-- One thread for all theorems: a thread for each takes a stack of its own, and there is no room for them all.
set_option Elab.async false

section
/-! CERTIFICATE. One step takes the command at the front of the queue, and every command completes and leaves the queue
to `step` (log entries 3 and 5). -/

namespace Sys2Proof.Machine

open Sys2Proof

/-! ### One step -/

theorem step_cons {s : State} {c : Instr} {rest : List Instr} (h : s.pending = c :: rest) :
    step s = exec c { s with pending := rest } := by
  rw [step, h]

theorem step_nil {s : State} (h : s.pending = []) : step s = .next s := by
  rw [step, h]

/-- Settles O1: the two shapes of the queue. -/
theorem stepRunsTheFrontCommand : Obligations.StepRunsTheFrontCommand :=
  ⟨fun _ _ _ => step_cons, fun _ => step_nil⟩

/-! ### Every command has a next state -/

theorem whenRunning_completes (s : State) (effect : State → State) : ∃ t, whenRunning s effect = .next t := by
  unfold whenRunning
  split
  · exact ⟨_, rfl⟩
  · exact ⟨_, rfl⟩

/-- With RST# high there is no rising edge (log entry 3). -/
theorem exec_coldResetRelease_completes (n : BitVec 5) (m : BitVec 3) (s : State) :
    ∃ t, exec (.coldResetRelease n m) s = .next t := by
  cases h : s.resetLow with
  | true => exact ⟨_, exec_coldResetRelease_low h n m⟩
  | false => exact ⟨s, exec_coldResetRelease_high h n m⟩

theorem exec_row_completes (c : Command) (s : State) : ∃ t, exec c.row s = .next t := by
  rw [exec_row]
  exact whenRunning_completes s _

/-- A command is the rising edge of RST#, a discarded parcel, or an event or a directive of a router that runs. -/
theorem exec_completes (c : Instr) (s : State) : ∃ t, exec c s = .next t := by
  have row (k : ∃ k ∈ allCommands, c = k.row) : ∃ t, exec c s = .next t := by
    obtain ⟨k, -, rfl⟩ := k
    exact exec_row_completes k s
  cases c
  case coldResetRelease n m => exact exec_coldResetRelease_completes n m s
  case parcelDiscardInactive | trainingParcelDiscard => exact ⟨s, rfl⟩
  case coldResetAssert | timeBaseTick | helloTimerExpiry | attemptTimerExpiry | helloAccept | helloReceiveUp |
      damagedParcel | requestParcelReceive | replyParcelReceive | creditReceive | unknownKindReceive | parcelLeft |
      replyMatch | deadlineExpiry | orphanDeadlineExpiry | tombstoneExpiry | lockHoldExpiry | unknownCommand =>
    dsimp only [exec]
    exact whenRunning_completes s _
  all_goals exact row (by decide)

/-! ### The queue across link loss, resets and deferred actions -/

theorem SameSetup.pending {s t : State} (h : SameSetup s t) : t.pending = s.pending := by
  obtain ⟨pending, -⟩ := h
  exact pending

@[simp] theorem loseLink_pending (x : Port) (cause : LossCause) (s : State) :
    (loseLink x cause s).pending = s.pending := by
  obtain ⟨_, _, _, _, _, _, _, h⟩ := loseLink_blocks x cause s
  rw [h]

@[simp] theorem warmReset_pending (s : State) : (warmReset s).pending = s.pending := by
  obtain ⟨ports, -, h⟩ := warmReset_eq s
  rw [h, raiseFault_pending, withdrawNote_pending]
  rfl

@[simp] theorem moveNode_pending (n : Node) (s : State) : (moveNode n s).pending = s.pending := by
  unfold moveNode
  split
  · rfl
  · rw [routeCheck_pending]

@[simp] theorem enablePort_pending (q : Port) (s : State) : (enablePort q s).pending = s.pending := by
  unfold enablePort
  split <;> simp

@[simp] theorem disablePort_pending (q : Port) (s : State) : (disablePort q s).1.pending = s.pending := by
  unfold disablePort
  split <;> simp

@[simp] theorem restartPort_pending (q : Port) (s : State) : (restartPort q s).1.pending = s.pending := by
  unfold restartPort
  split <;> simp

@[simp] theorem takeActions_pending (work : List PendingAction) (s : State) :
    (takeActions work s).pending = s.pending :=
  takeActions_keeps (fun u => u.pending = s.pending) work s rfl (fun u hu => (warmReset_pending u).trans hu)
    (fun n u hu => (moveNode_pending n u).trans hu) (fun q u hu => (disablePort_pending q u).trans hu)
    (fun q u hu => (restartPort_pending q u).trans hu)

@[simp] theorem linkLoss_pending (x : Port) (cause : LossCause) (s : State) :
    (linkLoss x cause s).pending = s.pending := by
  rw [linkLoss, takeActions_pending, loseLink_pending]

@[simp] theorem releaseAction_pending (x : Port) (s : State) : (releaseAction x s).pending = s.pending := by
  unfold releaseAction
  split
  · rfl
  · rw [takeActions_pending]

/-! ### The queue across events of the links and of the timers -/

@[simp] theorem acceptHello_pending (p : Port) (node : Node) (offers : LanePair) (f : Bool) (s : State) :
    (acceptHello p node offers f s).pending = s.pending := by
  cases h : (s.port p).seen || f with
  | false => rw [acceptHello_unseen h, State.modifyPort_pending]
  | true => rw [acceptHello_seen h, routeCheck_pending, State.modifyPort_pending]

@[simp] theorem firstOfTraining_pending (p : Port) (n : Node) (a b : Byte) (f : Bool) (s : State) :
    (firstOfTraining p n a b f s).pending = s.pending := by
  unfold firstOfTraining
  split <;> simp

/-- The parcel is stored, or its overrun loses the link (R18). -/
@[simp] theorem receiveRequest_pending (p : Port) (c : Credits) (r : Request) (s : State) :
    (receiveRequest p c r s).pending = s.pending := by
  unfold receiveRequest
  dsimp only
  split
  · rw [(sameSetup_storeRequest p r _).pending, takeCredits_pending]
  · simp

@[simp] theorem receiveReply_pending (p : Port) (c : Credits) (r : Reply) (s : State) :
    (receiveReply p c r s).pending = s.pending := by
  unfold receiveReply
  dsimp only
  split
  · rw [(sameSetup_storeReply p r _).pending, takeCredits_pending]
  · simp

@[simp] theorem noteLeft_pending (p : Port) (s : State) : (noteLeft p s).pending = s.pending :=
  (sameSetup_noteLeft p s).pending

@[simp] theorem parcelGone_pending (p : Port) (t : Transmission) (s : State) :
    (parcelGone p t s).pending = s.pending := by
  unfold parcelGone
  dsimp only
  split <;> simp

/-- An attempt begins again, or the port is halted (R7). -/
@[simp] theorem endAttempt_pending (p : Port) (s : State) : (endAttempt p s).pending = s.pending := by
  have counted : (countAttempt p s).pending = s.pending := rfl
  have halted (u : State) : (haltPort p u).pending = u.pending := by
    unfold haltPort loseManager
    split <;> simp
  unfold endAttempt
  split
  · dsimp only
    split
    · rw [beginAttempt_pending, counted]
    · rw [halted, counted]
  · rw [beginAttempt_pending]

/-! ### The queue across directives -/

@[simp] theorem setFence_pending (p : Port) (s : State) : (setFence p s).pending = s.pending := by
  unfold setFence
  split
  · rfl
  · rw [markHeads_pending, (sameSetup_breakHeldBy p .fence _).pending, State.modifyPort_pending]

@[simp] theorem commitTable_pending (s : State) : (commitTable s).state.pending = s.pending := by
  unfold commitTable
  split
  · rfl
  · split <;> rfl

@[simp] theorem writeNode_pending (n : Node) (e : NodeEntry) (s : State) : (writeNode n e s).pending = s.pending := by
  unfold writeNode
  split
  · rfl
  · rw [routeCheck_pending]

@[simp] theorem putAlertNode_pending (v : Option Node) (s : State) : (putAlertNode v s).pending = s.pending := by
  unfold putAlertNode
  dsimp only
  split
  · rfl
  · split
    · rfl
    · rw [routeCheck_pending]

@[simp] theorem armAlert_pending (s : State) : (armAlert s).pending = s.pending := by
  unfold armAlert
  dsimp only
  split
  · rfl
  · rw [raiseAlert_pending]

/-- No effect that a command may have reads or writes the queue. -/
theorem DirectiveEffect.pending {s u : State} {effect : State → DirResult} (h : DirectiveEffect s effect) :
    (effect u).state.pending = u.pending := by
  cases h with
  | enabled p => exact enablePort_pending p u
  | fenced p => exact setFence_pending p u
  | committed => exact commitTable_pending u
  | lockBroken r => exact (sameSetup_breakRecord .directive r u).pending
  | nodeWritten n e _ _ => exact writeNode_pending n e u
  | alertNodeSet v => exact putAlertNode_pending v u
  | alertArmed => exact armAlert_pending u
  | _ => rfl

@[simp] theorem claimManager_pending (c : Command) (d : Directive) (s : State) :
    (claimManager c d s).pending = s.pending := by
  unfold claimManager
  split <;> rfl

@[simp] theorem runCommand_pending (c : Command) (d : Directive) (s : State) :
    (runCommand c c.checks d s).state.pending = s.pending := by
  unfold runCommand
  split
  · rfl
  · split
    · rfl
    · split
      · rfl
      · next effect he => rw [(c.checks_give _ _ _ he).pending, claimManager_pending]

@[simp] theorem deliver_pending (d : Directive) (r : DirResult) : (deliver d r).pending = r.state.pending := by
  unfold deliver
  split
  · rfl
  · rw [takeActions_pending]

/-! ### Every command -/

/-- No event reads or writes the queue before the router comes to rest. -/
theorem EventEffect.pending {s t : State} (h : EventEffect s t) : t.pending = s.pending := by
  cases h with
  | helloDue p _ _ => rw [sendHello_pending, State.modifyPort_pending]
  | attemptEnded p _ _ => exact endAttempt_pending p s
  | helloAccepted p n a b f _ _ => exact acceptHello_pending p n _ f s
  | peerRestarted p n a b _ => rw [firstOfTraining_pending, linkLoss_pending]
  | damaged p _ => exact linkLoss_pending p _ s
  | requestReceived p c r _ => exact receiveRequest_pending p c r s
  | replyReceived p c r _ => exact receiveReply_pending p c r s
  | creditReceived p c _ => exact takeCredits_pending p c s
  | unknownKindReceived p _ => exact raiseFault_pending _ s
  | parcelLeft p t _ => exact parcelGone_pending p t s
  | replyStray p r rest _ _ => exact (sameSetup_discardReply p _ r s).pending
  | replyJudged p r rest i _ _ => exact (sameSetup_judgeReply p r i s).pending
  | deadline i e _ _ _ => exact ((sameSetup_raiseFault _ s).trans (sameSetup_placeSynth i e _ _)).pending
  | orphanDeadline i e _ _ _ => exact (sameSetup_toTombstone i e s).pending
  | tombstoneEnded i e _ _ _ => exact setEntry_pending s i none
  | holdEnded r l _ _ => exact (sameSetup_breakRecord _ r s).pending
  | executed c d _ _ => rw [deliver_pending, runCommand_pending]
  | executedUnknown d _ _ => exact deliver_pending d (reply .badCommand [] s)

/-- Whatever a command comes to leaves the queue: the rising edge of RST# puts it into the cold state as it was, and the
coming to rest of an event changes no setup. -/
theorem CommandEffect.pending {s t : State} (h : CommandEffect s t) : t.pending = s.pending := by
  cases h with
  | none | resetAsserted _ | resetReleased n m _ | ticked _ => rfl
  | event u _ hu => exact (sameSetup_settle u).pending.trans hu.pending

/-- Settles O2: every command has a next state, and whatever it comes to leaves the queue. -/
theorem everyCommandCompletes : Obligations.EveryCommandCompletes := by
  intro c s
  obtain ⟨t, h⟩ := exec_completes c s
  exact ⟨t, h, (exec_effect c h).pending⟩

end Sys2Proof.Machine
end

end
